-- ==== Sys2Proof/Word.lean ====
section
/-! DEFINITION. The machine's two word types (00_scope.md R10): the data byte and the 16-bit address or program counter. -/

namespace Sys2Proof

/-- A data byte: the data bus and every CPU register but PC (R10). -/
abbrev Byte := BitVec 8

/-- A 16-bit CPU address or the program counter (R10). -/
abbrev Word := BitVec 16

end Sys2Proof
end

