-- ==== Sys2Proof/Config.lean ====
section
/-! DEFINITION. What is fixed for a machine: the parameters of 00_scope.md R11, the cartridge descriptor of
21_cartridge_mappers.md R300, and the free values (opaque constants without a body, applied to plain counters that
State holds). -/

namespace Sys2Proof

/-- Sparse storage: (index, value) pairs, indexes strictly rising, no entry equal to 0, which is what an unlisted index
reads as (Machine/Memory.lean has its operations, `Sparse.wf` its form). -/
abbrev Sparse (w : Nat) := List (Nat × BitVec w)

/-- A byte memory in sparse form. -/
abbrev Mem := Sparse 8

/-- The two timing regions (R11, 62_apu.md R1050). -/
inductive Region where
  | ntsc
  | pal
deriving DecidableEq, Repr

/-- What an undocumented opcode does (47_undocumented.md R710–R713). -/
inductive UndocPolicy where
  | fault
  | nop
  | nmos
deriving DecidableEq, Repr

/-- Nametable mirroring (21_cartridge_mappers.md R321, R326). -/
inductive Mirroring where
  | horizontal
  | vertical
  | fourScreen
  | single0
  | single1
deriving DecidableEq, Repr

/-- The mapper's name (R312); an id outside the table keeps its number (R310). -/
inductive MapperId where
  | nrom
  | mmc1
  | unrom
  | cnrom
  | mmc3
  | aorom
  | colorDreams
  | bnrom
  | nina001
  | other (num : Nat)
deriving DecidableEq, Repr

/-- A read-only byte buffer: its length and its bytes in sparse form. -/
structure Rom where
  size  : Nat
  bytes : Mem
deriving DecidableEq, Repr

/-- The immutable Cartridge record of R300. Its content fingerprint is `Cartridge.fingerprint`. -/
structure Cartridge where
  mapperId          : MapperId
  mapperNum         : Nat
  submapperId       : Option (BitVec 4)
  mirroring         : Mirroring
  region            : Region
  prgRom            : Rom
  prgRamSize        : Nat
  prgRamSizeBattery : Nat
  chrRom            : Option Rom
  chrRamSize        : Nat
  chrRamSizeBattery : Nat
deriving DecidableEq, Repr

/-- The configuration arguments of R11 that are values. They are fixed for a run and stand in State as plain data, so
that a claim about every state is a claim about every value of them (92_eei_decisions.md, `OPEN`). -/
structure Params where
  undocPolicy          : UndocPolicy
  dummyAccesses        : Bool
  colorDreamsMirroring : Option (Fin 8)
  spriteOverflowBug    : Bool
  /-- The region table's clip flag: no rule reads it (D46). -/
  ppuClipNtsc          : Bool
  ppuClipPal           : Bool
  ppuPowerPalette      : Sparse 6
  ppuPowerOam          : Mem
  ppuPowerNametables   : Mem
deriving DecidableEq, Repr

/-- The open-bus draw of one read (R11, D14): any byte. Log 3. -/
opaque Config.openBus : Nat → Byte

/-- The controller draw of one read (R11, D21) of a port (false: port 1), the strobe being as given. Log 3. -/
opaque Config.inputRead : Bool → Bool → Nat → BitVec 5

/-- The stall draw of one DMC fetch (R11, D19): true for 4 cycles, false for 3. Log 3. -/
opaque Config.dmcStallIsFour : Nat → Bool

/-- The framebuffer colour of a 6-bit colour index (R11, D45). Log 6. -/
opaque Config.basePalette : BitVec 6 → BitVec 32

/-- What a CHR read beyond the end of a CHR memory smaller than one 1 KiB window gives; the spec states no value.
Arguments: the offset and the open-bus counter. Log 7. -/
opaque Config.chrBeyondEnd : Nat → Nat → Byte

/-- Whether a port (false: port 1) takes a host device, by the host's number of it; the combinations are not given (60_exceptions.md
R852). Log 24. -/
opaque Config.inputDeviceFits : Bool → Nat → Bool

/-- The cartridge's content fingerprint, a hash of PRG and CHR whose algorithm is not given (R300). Log 22. -/
opaque Config.fingerprint : Rom → Option Rom → Nat

/-- The fingerprint field of R300. -/
def Cartridge.fingerprint (c : Cartridge) : Nat := Config.fingerprint c.prgRom c.chrRom

end Sys2Proof
end

