-- ==== Sys2Proof/Syntax.lean ====
section
/-! DEFINITION. The instruction set as syntax: one constructor per row of spec/opcode_table.json (30_encoding.md R405).
A constructor is named after its mnemonic and addressing mode; where the table has two rows of one mnemonic and mode,
the opcode byte is added. The constructors with operand bytes stand first. Operand bytes are kept whole: m an immediate byte, z a zero-page byte, a a 16-bit address or
pointer (low byte first in memory), off a branch offset, sig BRK's padding byte. -/

namespace Sys2Proof

/-- The 256 instructions. -/
inductive Instr where
  -- Loads and stores (41_addressing_load_store.md), with operand bytes
  | ldaIzx (z : Byte)  -- A1
  | ldaZp (z : Byte)  -- A5
  | ldaImm (m : Byte)  -- A9
  | ldaAbs (a : Word)  -- AD
  | ldaIzy (z : Byte)  -- B1
  | ldaZpx (z : Byte)  -- B5
  | ldaAby (a : Word)  -- B9
  | ldaAbx (a : Word)  -- BD
  | ldxImm (m : Byte)  -- A2
  | ldxZp (z : Byte)  -- A6
  | ldxAbs (a : Word)  -- AE
  | ldxZpy (z : Byte)  -- B6
  | ldxAby (a : Word)  -- BE
  | ldyImm (m : Byte)  -- A0
  | ldyZp (z : Byte)  -- A4
  | ldyAbs (a : Word)  -- AC
  | ldyZpx (z : Byte)  -- B4
  | ldyAbx (a : Word)  -- BC
  | staIzx (z : Byte)  -- 81
  | staZp (z : Byte)  -- 85
  | staAbs (a : Word)  -- 8D
  | staIzy (z : Byte)  -- 91
  | staZpx (z : Byte)  -- 95
  | staAby (a : Word)  -- 99
  | staAbx (a : Word)  -- 9D
  | stxZp (z : Byte)  -- 86
  | stxAbs (a : Word)  -- 8E
  | stxZpy (z : Byte)  -- 96
  | styZp (z : Byte)  -- 84
  | styAbs (a : Word)  -- 8C
  | styZpx (z : Byte)  -- 94
  -- Arithmetic (43_arithmetic.md), with operand bytes
  | adcIzx (z : Byte)  -- 61
  | adcZp (z : Byte)  -- 65
  | adcImm (m : Byte)  -- 69
  | adcAbs (a : Word)  -- 6D
  | adcIzy (z : Byte)  -- 71
  | adcZpx (z : Byte)  -- 75
  | adcAby (a : Word)  -- 79
  | adcAbx (a : Word)  -- 7D
  | sbcIzx (z : Byte)  -- E1
  | sbcZp (z : Byte)  -- E5
  | sbcImm (m : Byte)  -- E9
  | sbcAbs (a : Word)  -- ED
  | sbcIzy (z : Byte)  -- F1
  | sbcZpx (z : Byte)  -- F5
  | sbcAby (a : Word)  -- F9
  | sbcAbx (a : Word)  -- FD
  | cmpIzx (z : Byte)  -- C1
  | cmpZp (z : Byte)  -- C5
  | cmpImm (m : Byte)  -- C9
  | cmpAbs (a : Word)  -- CD
  | cmpIzy (z : Byte)  -- D1
  | cmpZpx (z : Byte)  -- D5
  | cmpAby (a : Word)  -- D9
  | cmpAbx (a : Word)  -- DD
  | cpxImm (m : Byte)  -- E0
  | cpxZp (z : Byte)  -- E4
  | cpxAbs (a : Word)  -- EC
  | cpyImm (m : Byte)  -- C0
  | cpyZp (z : Byte)  -- C4
  | cpyAbs (a : Word)  -- CC
  | incZp (z : Byte)  -- E6
  | incAbs (a : Word)  -- EE
  | incZpx (z : Byte)  -- F6
  | incAbx (a : Word)  -- FE
  | decZp (z : Byte)  -- C6
  | decAbs (a : Word)  -- CE
  | decZpx (z : Byte)  -- D6
  | decAbx (a : Word)  -- DE
  -- Logic, shifts and rotates (44_logic_shift.md), with operand bytes
  | andIzx (z : Byte)  -- 21
  | andZp (z : Byte)  -- 25
  | andImm (m : Byte)  -- 29
  | andAbs (a : Word)  -- 2D
  | andIzy (z : Byte)  -- 31
  | andZpx (z : Byte)  -- 35
  | andAby (a : Word)  -- 39
  | andAbx (a : Word)  -- 3D
  | oraIzx (z : Byte)  -- 01
  | oraZp (z : Byte)  -- 05
  | oraImm (m : Byte)  -- 09
  | oraAbs (a : Word)  -- 0D
  | oraIzy (z : Byte)  -- 11
  | oraZpx (z : Byte)  -- 15
  | oraAby (a : Word)  -- 19
  | oraAbx (a : Word)  -- 1D
  | eorIzx (z : Byte)  -- 41
  | eorZp (z : Byte)  -- 45
  | eorImm (m : Byte)  -- 49
  | eorAbs (a : Word)  -- 4D
  | eorIzy (z : Byte)  -- 51
  | eorZpx (z : Byte)  -- 55
  | eorAby (a : Word)  -- 59
  | eorAbx (a : Word)  -- 5D
  | bitZp (z : Byte)  -- 24
  | bitAbs (a : Word)  -- 2C
  | aslZp (z : Byte)  -- 06
  | aslAbs (a : Word)  -- 0E
  | aslZpx (z : Byte)  -- 16
  | aslAbx (a : Word)  -- 1E
  | lsrZp (z : Byte)  -- 46
  | lsrAbs (a : Word)  -- 4E
  | lsrZpx (z : Byte)  -- 56
  | lsrAbx (a : Word)  -- 5E
  | rolZp (z : Byte)  -- 26
  | rolAbs (a : Word)  -- 2E
  | rolZpx (z : Byte)  -- 36
  | rolAbx (a : Word)  -- 3E
  | rorZp (z : Byte)  -- 66
  | rorAbs (a : Word)  -- 6E
  | rorZpx (z : Byte)  -- 76
  | rorAbx (a : Word)  -- 7E
  -- Control (45_control.md), with operand bytes
  | bcc (off : Byte)  -- 90
  | bcs (off : Byte)  -- B0
  | beq (off : Byte)  -- F0
  | bne (off : Byte)  -- D0
  | bmi (off : Byte)  -- 30
  | bpl (off : Byte)  -- 10
  | bvc (off : Byte)  -- 50
  | bvs (off : Byte)  -- 70
  | jmpAbs (a : Word)  -- 4C
  | jmpInd (a : Word)  -- 6C
  | jsr (a : Word)  -- 20
  -- System (46_system.md), with operand bytes
  | brk (sig : Byte)  -- 00
  -- Undocumented opcodes (47_undocumented.md), with operand bytes
  | sloIzx (z : Byte)  -- 03
  | sloZp (z : Byte)  -- 07
  | sloAbs (a : Word)  -- 0F
  | sloIzy (z : Byte)  -- 13
  | sloZpx (z : Byte)  -- 17
  | sloAby (a : Word)  -- 1B
  | sloAbx (a : Word)  -- 1F
  | rlaIzx (z : Byte)  -- 23
  | rlaZp (z : Byte)  -- 27
  | rlaAbs (a : Word)  -- 2F
  | rlaIzy (z : Byte)  -- 33
  | rlaZpx (z : Byte)  -- 37
  | rlaAby (a : Word)  -- 3B
  | rlaAbx (a : Word)  -- 3F
  | sreIzx (z : Byte)  -- 43
  | sreZp (z : Byte)  -- 47
  | sreAbs (a : Word)  -- 4F
  | sreIzy (z : Byte)  -- 53
  | sreZpx (z : Byte)  -- 57
  | sreAby (a : Word)  -- 5B
  | sreAbx (a : Word)  -- 5F
  | rraIzx (z : Byte)  -- 63
  | rraZp (z : Byte)  -- 67
  | rraAbs (a : Word)  -- 6F
  | rraIzy (z : Byte)  -- 73
  | rraZpx (z : Byte)  -- 77
  | rraAby (a : Word)  -- 7B
  | rraAbx (a : Word)  -- 7F
  | saxIzx (z : Byte)  -- 83
  | saxZp (z : Byte)  -- 87
  | saxAbs (a : Word)  -- 8F
  | saxZpy (z : Byte)  -- 97
  | laxIzx (z : Byte)  -- A3
  | laxZp (z : Byte)  -- A7
  | laxAbs (a : Word)  -- AF
  | laxIzy (z : Byte)  -- B3
  | laxZpy (z : Byte)  -- B7
  | laxAby (a : Word)  -- BF
  | dcpIzx (z : Byte)  -- C3
  | dcpZp (z : Byte)  -- C7
  | dcpAbs (a : Word)  -- CF
  | dcpIzy (z : Byte)  -- D3
  | dcpZpx (z : Byte)  -- D7
  | dcpAby (a : Word)  -- DB
  | dcpAbx (a : Word)  -- DF
  | iscIzx (z : Byte)  -- E3
  | iscZp (z : Byte)  -- E7
  | iscAbs (a : Word)  -- EF
  | iscIzy (z : Byte)  -- F3
  | iscZpx (z : Byte)  -- F7
  | iscAby (a : Word)  -- FB
  | iscAbx (a : Word)  -- FF
  | ancImm0B (m : Byte)  -- 0B
  | ancImm2B (m : Byte)  -- 2B
  | alrImm (m : Byte)  -- 4B
  | arrImm (m : Byte)  -- 6B
  | axsImm (m : Byte)  -- CB
  | usbcImm (m : Byte)  -- EB
  | nopZp04 (z : Byte)  -- 04
  | nopAbs (a : Word)  -- 0C
  | nopZpx14 (z : Byte)  -- 14
  | nopAbx1C (a : Word)  -- 1C
  | nopZpx34 (z : Byte)  -- 34
  | nopAbx3C (a : Word)  -- 3C
  | nopZp44 (z : Byte)  -- 44
  | nopZpx54 (z : Byte)  -- 54
  | nopAbx5C (a : Word)  -- 5C
  | nopZp64 (z : Byte)  -- 64
  | nopZpx74 (z : Byte)  -- 74
  | nopAbx7C (a : Word)  -- 7C
  | nopImm80 (m : Byte)  -- 80
  | nopImm82 (m : Byte)  -- 82
  | nopImm89 (m : Byte)  -- 89
  | nopImmC2 (m : Byte)  -- C2
  | nopZpxD4 (z : Byte)  -- D4
  | nopAbxDC (a : Word)  -- DC
  | nopImmE2 (m : Byte)  -- E2
  | nopZpxF4 (z : Byte)  -- F4
  | nopAbxFC (a : Word)  -- FC
  | lasAby (a : Word)  -- BB
  | aneImm (m : Byte)  -- 8B
  | shaIzy (z : Byte)  -- 93
  | tasAby (a : Word)  -- 9B
  | shyAbx (a : Word)  -- 9C
  | shxAby (a : Word)  -- 9E
  | shaAby (a : Word)  -- 9F
  | lxaImm (m : Byte)  -- AB
  -- Transfers and stack (42_transfer_stack.md), no operand byte
  | tax  -- AA
  | tay  -- A8
  | txa  -- 8A
  | tya  -- 98
  | tsx  -- BA
  | txs  -- 9A
  | pha  -- 48
  | php  -- 08
  | pla  -- 68
  | plp  -- 28
  -- Arithmetic (43_arithmetic.md), no operand byte
  | inx  -- E8
  | iny  -- C8
  | dex  -- CA
  | dey  -- 88
  -- Logic, shifts and rotates (44_logic_shift.md), no operand byte
  | aslAcc  -- 0A
  | lsrAcc  -- 4A
  | rolAcc  -- 2A
  | rorAcc  -- 6A
  -- Control (45_control.md), no operand byte
  | rts  -- 60
  -- System (46_system.md), no operand byte
  | rti  -- 40
  | nop  -- EA
  | clc  -- 18
  | sec  -- 38
  | cli  -- 58
  | sei  -- 78
  | cld  -- D8
  | sed  -- F8
  | clv  -- B8
  -- Undocumented opcodes (47_undocumented.md), no operand byte
  | jam02  -- 02
  | jam12  -- 12
  | jam22  -- 22
  | jam32  -- 32
  | jam42  -- 42
  | jam52  -- 52
  | jam62  -- 62
  | jam72  -- 72
  | jam92  -- 92
  | jamB2  -- B2
  | jamD2  -- D2
  | jamF2  -- F2
  | nopImp1A  -- 1A
  | nopImp3A  -- 3A
  | nopImp5A  -- 5A
  | nopImp7A  -- 7A
  | nopImpDA  -- DA
  | nopImpFA  -- FA
deriving DecidableEq, Repr

/-- The 77 mnemonics of spec/opcode_table.json. -/
inductive Mnemonic where
  | adc | alr | anc | and | ane | arr | asl | axs | bcc | bcs | beq
  | bit | bmi | bne | bpl | brk | bvc | bvs | clc | cld | cli | clv
  | cmp | cpx | cpy | dcp | dec | dex | dey | eor | inc | inx | iny
  | isc | jam | jmp | jsr | las | lax | lda | ldx | ldy | lsr | lxa
  | nop | ora | pha | php | pla | plp | rla | rol | ror | rra | rti
  | rts | sax | sbc | sec | sed | sei | sha | shx | shy | slo | sre
  | sta | stx | sty | tas | tax | tay | tsx | txa | txs | tya | usbc
deriving DecidableEq, Repr

/-- The addressing modes that give an effective address for a data access (41_addressing_load_store.md R504–R511),
with their operand bytes. -/
inductive Addressing where
  | zp (z : Byte)
  | zpx (z : Byte)
  | zpy (z : Byte)
  | abs (a : Word)
  | abx (a : Word)
  | aby (a : Word)
  | izx (z : Byte)
  | izy (z : Byte)
deriving DecidableEq, Repr

/-- The source of a read operand (R514): the immediate byte (R503) or a memory byte. -/
inductive Source where
  | imm (m : Byte)
  | mem (ea : Addressing)
deriving DecidableEq, Repr

end Sys2Proof
end

