-- ==== Sys2Proof/WellFormed.lean ====
section
/-! DEFINITION. The checks on syntax and on cartridges. An instruction's operand fields are whole bytes and words (30_encoding.md
R403: every operand value is legal and none is scaled), so every term of Instr is well-formed. A cartridge is checked
when its mapper is constructed (21_cartridge_mappers.md R313, R314). -/

namespace Sys2Proof

/-- R403, R407: every opcode byte is assigned and every operand value is legal, so there is nothing to refuse. -/
def Instr.wellFormed (_ : Instr) : Bool := true

/-- Why the construction of a mapper fails. -/
inductive ConstructionError where
  /-- UnsupportedMapperError, naming the numeric id (R313). -/
  | unsupportedMapper (num : Nat)
  /-- Both PRG and CHR RAM are battery-backed (R314, D25). -/
  | bothBatteries
deriving DecidableEq, Repr

/-- The mapper is one of the nine (R313). -/
def Cartridge.supported (c : Cartridge) : Bool :=
  match c.mapperId with
  | .other _ => false
  | _ => true

/-- Not both PRG and CHR RAM are battery-backed (R314). -/
def Cartridge.oneBattery (c : Cartridge) : Bool :=
  !(decide (0 < c.prgRamSizeBattery) && decide (0 < c.chrRamSizeBattery))

/-- The construction-time checks in order: the mapper first, then the batteries. -/
def Cartridge.check (c : Cartridge) : Except ConstructionError Unit :=
  if !c.supported then .error (.unsupportedMapper c.mapperNum)
  else if !c.oneBattery then .error .bothBatteries
  else .ok ()

end Sys2Proof
end

