-- ==== Sys2Proof/Decode.lean ====
section
/-! DEFINITION. Decoding and encoding (30_encoding.md R400–R405). The opcode byte alone decides the mode and the length
(R401); the map is R405's, sixteen rows of sixteen cells. Decoding is total on byte lists: all 256 opcode bytes are
assigned (R407), so the only rejection is a list that ends before the instruction does. -/

namespace Sys2Proof

/-- A 16-bit value from its low and high byte, little-endian (R403, D2). -/
def wordOf (l h : Byte) : Word := h ++ l

/-- Bits 7:0 of a word. -/
def loByte (a : Word) : Byte := a.extractLsb' 0 8

/-- Bits 15:8 of a word. -/
def hiByte (a : Word) : Byte := a.extractLsb' 8 8

/-- A cell of the opcode map: an instruction without operand byte, with one, or with two. -/
inductive OpcodeCell where
  | one (i : Instr)
  | two (f : Byte → Instr)
  | three (f : Word → Instr)

/-- Row 0x of R405. -/
def opcodeRow0 : List OpcodeCell :=
  [.two .brk, .two .oraIzx, .one .jam02, .two .sloIzx,
   .two .nopZp04, .two .oraZp, .two .aslZp, .two .sloZp,
   .one .php, .two .oraImm, .one .aslAcc, .two .ancImm0B,
   .three .nopAbs, .three .oraAbs, .three .aslAbs, .three .sloAbs]

/-- Row 1x of R405. -/
def opcodeRow1 : List OpcodeCell :=
  [.two .bpl, .two .oraIzy, .one .jam12, .two .sloIzy,
   .two .nopZpx14, .two .oraZpx, .two .aslZpx, .two .sloZpx,
   .one .clc, .three .oraAby, .one .nopImp1A, .three .sloAby,
   .three .nopAbx1C, .three .oraAbx, .three .aslAbx, .three .sloAbx]

/-- Row 2x of R405. -/
def opcodeRow2 : List OpcodeCell :=
  [.three .jsr, .two .andIzx, .one .jam22, .two .rlaIzx,
   .two .bitZp, .two .andZp, .two .rolZp, .two .rlaZp,
   .one .plp, .two .andImm, .one .rolAcc, .two .ancImm2B,
   .three .bitAbs, .three .andAbs, .three .rolAbs, .three .rlaAbs]

/-- Row 3x of R405. -/
def opcodeRow3 : List OpcodeCell :=
  [.two .bmi, .two .andIzy, .one .jam32, .two .rlaIzy,
   .two .nopZpx34, .two .andZpx, .two .rolZpx, .two .rlaZpx,
   .one .sec, .three .andAby, .one .nopImp3A, .three .rlaAby,
   .three .nopAbx3C, .three .andAbx, .three .rolAbx, .three .rlaAbx]

/-- Row 4x of R405. -/
def opcodeRow4 : List OpcodeCell :=
  [.one .rti, .two .eorIzx, .one .jam42, .two .sreIzx,
   .two .nopZp44, .two .eorZp, .two .lsrZp, .two .sreZp,
   .one .pha, .two .eorImm, .one .lsrAcc, .two .alrImm,
   .three .jmpAbs, .three .eorAbs, .three .lsrAbs, .three .sreAbs]

/-- Row 5x of R405. -/
def opcodeRow5 : List OpcodeCell :=
  [.two .bvc, .two .eorIzy, .one .jam52, .two .sreIzy,
   .two .nopZpx54, .two .eorZpx, .two .lsrZpx, .two .sreZpx,
   .one .cli, .three .eorAby, .one .nopImp5A, .three .sreAby,
   .three .nopAbx5C, .three .eorAbx, .three .lsrAbx, .three .sreAbx]

/-- Row 6x of R405. -/
def opcodeRow6 : List OpcodeCell :=
  [.one .rts, .two .adcIzx, .one .jam62, .two .rraIzx,
   .two .nopZp64, .two .adcZp, .two .rorZp, .two .rraZp,
   .one .pla, .two .adcImm, .one .rorAcc, .two .arrImm,
   .three .jmpInd, .three .adcAbs, .three .rorAbs, .three .rraAbs]

/-- Row 7x of R405. -/
def opcodeRow7 : List OpcodeCell :=
  [.two .bvs, .two .adcIzy, .one .jam72, .two .rraIzy,
   .two .nopZpx74, .two .adcZpx, .two .rorZpx, .two .rraZpx,
   .one .sei, .three .adcAby, .one .nopImp7A, .three .rraAby,
   .three .nopAbx7C, .three .adcAbx, .three .rorAbx, .three .rraAbx]

/-- Row 8x of R405. -/
def opcodeRow8 : List OpcodeCell :=
  [.two .nopImm80, .two .staIzx, .two .nopImm82, .two .saxIzx,
   .two .styZp, .two .staZp, .two .stxZp, .two .saxZp,
   .one .dey, .two .nopImm89, .one .txa, .two .aneImm,
   .three .styAbs, .three .staAbs, .three .stxAbs, .three .saxAbs]

/-- Row 9x of R405. -/
def opcodeRow9 : List OpcodeCell :=
  [.two .bcc, .two .staIzy, .one .jam92, .two .shaIzy,
   .two .styZpx, .two .staZpx, .two .stxZpy, .two .saxZpy,
   .one .tya, .three .staAby, .one .txs, .three .tasAby,
   .three .shyAbx, .three .staAbx, .three .shxAby, .three .shaAby]

/-- Row Ax of R405. -/
def opcodeRowA : List OpcodeCell :=
  [.two .ldyImm, .two .ldaIzx, .two .ldxImm, .two .laxIzx,
   .two .ldyZp, .two .ldaZp, .two .ldxZp, .two .laxZp,
   .one .tay, .two .ldaImm, .one .tax, .two .lxaImm,
   .three .ldyAbs, .three .ldaAbs, .three .ldxAbs, .three .laxAbs]

/-- Row Bx of R405. -/
def opcodeRowB : List OpcodeCell :=
  [.two .bcs, .two .ldaIzy, .one .jamB2, .two .laxIzy,
   .two .ldyZpx, .two .ldaZpx, .two .ldxZpy, .two .laxZpy,
   .one .clv, .three .ldaAby, .one .tsx, .three .lasAby,
   .three .ldyAbx, .three .ldaAbx, .three .ldxAby, .three .laxAby]

/-- Row Cx of R405. -/
def opcodeRowC : List OpcodeCell :=
  [.two .cpyImm, .two .cmpIzx, .two .nopImmC2, .two .dcpIzx,
   .two .cpyZp, .two .cmpZp, .two .decZp, .two .dcpZp,
   .one .iny, .two .cmpImm, .one .dex, .two .axsImm,
   .three .cpyAbs, .three .cmpAbs, .three .decAbs, .three .dcpAbs]

/-- Row Dx of R405. -/
def opcodeRowD : List OpcodeCell :=
  [.two .bne, .two .cmpIzy, .one .jamD2, .two .dcpIzy,
   .two .nopZpxD4, .two .cmpZpx, .two .decZpx, .two .dcpZpx,
   .one .cld, .three .cmpAby, .one .nopImpDA, .three .dcpAby,
   .three .nopAbxDC, .three .cmpAbx, .three .decAbx, .three .dcpAbx]

/-- Row Ex of R405. -/
def opcodeRowE : List OpcodeCell :=
  [.two .cpxImm, .two .sbcIzx, .two .nopImmE2, .two .iscIzx,
   .two .cpxZp, .two .sbcZp, .two .incZp, .two .iscZp,
   .one .inx, .two .sbcImm, .one .nop, .two .usbcImm,
   .three .cpxAbs, .three .sbcAbs, .three .incAbs, .three .iscAbs]

/-- Row Fx of R405. -/
def opcodeRowF : List OpcodeCell :=
  [.two .beq, .two .sbcIzy, .one .jamF2, .two .iscIzy,
   .two .nopZpxF4, .two .sbcZpx, .two .incZpx, .two .iscZpx,
   .one .sed, .three .sbcAby, .one .nopImpFA, .three .iscAby,
   .three .nopAbxFC, .three .sbcAbx, .three .incAbx, .three .iscAbx]

/-- The opcode map of R405, one list per high nibble. -/
def opcodeMap : List (List OpcodeCell) :=
  [opcodeRow0, opcodeRow1, opcodeRow2, opcodeRow3,
   opcodeRow4, opcodeRow5, opcodeRow6, opcodeRow7,
   opcodeRow8, opcodeRow9, opcodeRowA, opcodeRowB,
   opcodeRowC, opcodeRowD, opcodeRowE, opcodeRowF]

/-- The map's cell of an opcode byte. Every byte has one (`opcodeCell_total` in Laws/Decode.lean); the default is never used. -/
def opcodeCell (op : Byte) : OpcodeCell :=
  (opcodeMap.getD (op.toNat / 16) []).getD (op.toNat % 16) (.one .nop)

/-- How many bytes the instruction of an opcode byte has (R400, R401). -/
def opcodeLength (op : Byte) : Nat :=
  match opcodeCell op with
  | .one _ => 1
  | .two _ => 2
  | .three _ => 3

/-- The instruction of an opcode byte and the two bytes after it; a byte beyond the length is not looked at. -/
def instrOf (op b1 b2 : Byte) : Instr :=
  match opcodeCell op with
  | .one i => i
  | .two f => f b1
  | .three f => f (wordOf b1 b2)

/-- Why a byte list is no instruction. -/
inductive DecodeError where
  /-- No byte at all. -/
  | noOpcode
  /-- The list ends before the operand bytes of the opcode. -/
  | operandMissing (op : Byte)
deriving DecidableEq, Repr

/-- The instruction at the head of a byte list, with the bytes after it. -/
def decode : List Byte → Except DecodeError (Instr × List Byte)
  | [] => .error .noOpcode
  | op :: rest =>
    match opcodeCell op, rest with
    | .one i, rest => .ok (i, rest)
    | .two f, b1 :: rest => .ok (f b1, rest)
    | .three f, b1 :: b2 :: rest => .ok (f (wordOf b1 b2), rest)
    | .two _, _ => .error (.operandMissing op)
    | .three _, _ => .error (.operandMissing op)

/-- The opcode byte of an instruction (spec/opcode_table.json, field match). -/
def Instr.opcode : Instr → Byte
  | .ldaIzx _ => 0xA1
  | .ldaZp _ => 0xA5
  | .ldaImm _ => 0xA9
  | .ldaAbs _ => 0xAD
  | .ldaIzy _ => 0xB1
  | .ldaZpx _ => 0xB5
  | .ldaAby _ => 0xB9
  | .ldaAbx _ => 0xBD
  | .ldxImm _ => 0xA2
  | .ldxZp _ => 0xA6
  | .ldxAbs _ => 0xAE
  | .ldxZpy _ => 0xB6
  | .ldxAby _ => 0xBE
  | .ldyImm _ => 0xA0
  | .ldyZp _ => 0xA4
  | .ldyAbs _ => 0xAC
  | .ldyZpx _ => 0xB4
  | .ldyAbx _ => 0xBC
  | .staIzx _ => 0x81
  | .staZp _ => 0x85
  | .staAbs _ => 0x8D
  | .staIzy _ => 0x91
  | .staZpx _ => 0x95
  | .staAby _ => 0x99
  | .staAbx _ => 0x9D
  | .stxZp _ => 0x86
  | .stxAbs _ => 0x8E
  | .stxZpy _ => 0x96
  | .styZp _ => 0x84
  | .styAbs _ => 0x8C
  | .styZpx _ => 0x94
  | .adcIzx _ => 0x61
  | .adcZp _ => 0x65
  | .adcImm _ => 0x69
  | .adcAbs _ => 0x6D
  | .adcIzy _ => 0x71
  | .adcZpx _ => 0x75
  | .adcAby _ => 0x79
  | .adcAbx _ => 0x7D
  | .sbcIzx _ => 0xE1
  | .sbcZp _ => 0xE5
  | .sbcImm _ => 0xE9
  | .sbcAbs _ => 0xED
  | .sbcIzy _ => 0xF1
  | .sbcZpx _ => 0xF5
  | .sbcAby _ => 0xF9
  | .sbcAbx _ => 0xFD
  | .cmpIzx _ => 0xC1
  | .cmpZp _ => 0xC5
  | .cmpImm _ => 0xC9
  | .cmpAbs _ => 0xCD
  | .cmpIzy _ => 0xD1
  | .cmpZpx _ => 0xD5
  | .cmpAby _ => 0xD9
  | .cmpAbx _ => 0xDD
  | .cpxImm _ => 0xE0
  | .cpxZp _ => 0xE4
  | .cpxAbs _ => 0xEC
  | .cpyImm _ => 0xC0
  | .cpyZp _ => 0xC4
  | .cpyAbs _ => 0xCC
  | .incZp _ => 0xE6
  | .incAbs _ => 0xEE
  | .incZpx _ => 0xF6
  | .incAbx _ => 0xFE
  | .decZp _ => 0xC6
  | .decAbs _ => 0xCE
  | .decZpx _ => 0xD6
  | .decAbx _ => 0xDE
  | .andIzx _ => 0x21
  | .andZp _ => 0x25
  | .andImm _ => 0x29
  | .andAbs _ => 0x2D
  | .andIzy _ => 0x31
  | .andZpx _ => 0x35
  | .andAby _ => 0x39
  | .andAbx _ => 0x3D
  | .oraIzx _ => 0x01
  | .oraZp _ => 0x05
  | .oraImm _ => 0x09
  | .oraAbs _ => 0x0D
  | .oraIzy _ => 0x11
  | .oraZpx _ => 0x15
  | .oraAby _ => 0x19
  | .oraAbx _ => 0x1D
  | .eorIzx _ => 0x41
  | .eorZp _ => 0x45
  | .eorImm _ => 0x49
  | .eorAbs _ => 0x4D
  | .eorIzy _ => 0x51
  | .eorZpx _ => 0x55
  | .eorAby _ => 0x59
  | .eorAbx _ => 0x5D
  | .bitZp _ => 0x24
  | .bitAbs _ => 0x2C
  | .aslZp _ => 0x06
  | .aslAbs _ => 0x0E
  | .aslZpx _ => 0x16
  | .aslAbx _ => 0x1E
  | .lsrZp _ => 0x46
  | .lsrAbs _ => 0x4E
  | .lsrZpx _ => 0x56
  | .lsrAbx _ => 0x5E
  | .rolZp _ => 0x26
  | .rolAbs _ => 0x2E
  | .rolZpx _ => 0x36
  | .rolAbx _ => 0x3E
  | .rorZp _ => 0x66
  | .rorAbs _ => 0x6E
  | .rorZpx _ => 0x76
  | .rorAbx _ => 0x7E
  | .bcc _ => 0x90
  | .bcs _ => 0xB0
  | .beq _ => 0xF0
  | .bne _ => 0xD0
  | .bmi _ => 0x30
  | .bpl _ => 0x10
  | .bvc _ => 0x50
  | .bvs _ => 0x70
  | .jmpAbs _ => 0x4C
  | .jmpInd _ => 0x6C
  | .jsr _ => 0x20
  | .brk _ => 0x00
  | .sloIzx _ => 0x03
  | .sloZp _ => 0x07
  | .sloAbs _ => 0x0F
  | .sloIzy _ => 0x13
  | .sloZpx _ => 0x17
  | .sloAby _ => 0x1B
  | .sloAbx _ => 0x1F
  | .rlaIzx _ => 0x23
  | .rlaZp _ => 0x27
  | .rlaAbs _ => 0x2F
  | .rlaIzy _ => 0x33
  | .rlaZpx _ => 0x37
  | .rlaAby _ => 0x3B
  | .rlaAbx _ => 0x3F
  | .sreIzx _ => 0x43
  | .sreZp _ => 0x47
  | .sreAbs _ => 0x4F
  | .sreIzy _ => 0x53
  | .sreZpx _ => 0x57
  | .sreAby _ => 0x5B
  | .sreAbx _ => 0x5F
  | .rraIzx _ => 0x63
  | .rraZp _ => 0x67
  | .rraAbs _ => 0x6F
  | .rraIzy _ => 0x73
  | .rraZpx _ => 0x77
  | .rraAby _ => 0x7B
  | .rraAbx _ => 0x7F
  | .saxIzx _ => 0x83
  | .saxZp _ => 0x87
  | .saxAbs _ => 0x8F
  | .saxZpy _ => 0x97
  | .laxIzx _ => 0xA3
  | .laxZp _ => 0xA7
  | .laxAbs _ => 0xAF
  | .laxIzy _ => 0xB3
  | .laxZpy _ => 0xB7
  | .laxAby _ => 0xBF
  | .dcpIzx _ => 0xC3
  | .dcpZp _ => 0xC7
  | .dcpAbs _ => 0xCF
  | .dcpIzy _ => 0xD3
  | .dcpZpx _ => 0xD7
  | .dcpAby _ => 0xDB
  | .dcpAbx _ => 0xDF
  | .iscIzx _ => 0xE3
  | .iscZp _ => 0xE7
  | .iscAbs _ => 0xEF
  | .iscIzy _ => 0xF3
  | .iscZpx _ => 0xF7
  | .iscAby _ => 0xFB
  | .iscAbx _ => 0xFF
  | .ancImm0B _ => 0x0B
  | .ancImm2B _ => 0x2B
  | .alrImm _ => 0x4B
  | .arrImm _ => 0x6B
  | .axsImm _ => 0xCB
  | .usbcImm _ => 0xEB
  | .nopZp04 _ => 0x04
  | .nopAbs _ => 0x0C
  | .nopZpx14 _ => 0x14
  | .nopAbx1C _ => 0x1C
  | .nopZpx34 _ => 0x34
  | .nopAbx3C _ => 0x3C
  | .nopZp44 _ => 0x44
  | .nopZpx54 _ => 0x54
  | .nopAbx5C _ => 0x5C
  | .nopZp64 _ => 0x64
  | .nopZpx74 _ => 0x74
  | .nopAbx7C _ => 0x7C
  | .nopImm80 _ => 0x80
  | .nopImm82 _ => 0x82
  | .nopImm89 _ => 0x89
  | .nopImmC2 _ => 0xC2
  | .nopZpxD4 _ => 0xD4
  | .nopAbxDC _ => 0xDC
  | .nopImmE2 _ => 0xE2
  | .nopZpxF4 _ => 0xF4
  | .nopAbxFC _ => 0xFC
  | .lasAby _ => 0xBB
  | .aneImm _ => 0x8B
  | .shaIzy _ => 0x93
  | .tasAby _ => 0x9B
  | .shyAbx _ => 0x9C
  | .shxAby _ => 0x9E
  | .shaAby _ => 0x9F
  | .lxaImm _ => 0xAB
  | .tax => 0xAA
  | .tay => 0xA8
  | .txa => 0x8A
  | .tya => 0x98
  | .tsx => 0xBA
  | .txs => 0x9A
  | .pha => 0x48
  | .php => 0x08
  | .pla => 0x68
  | .plp => 0x28
  | .inx => 0xE8
  | .iny => 0xC8
  | .dex => 0xCA
  | .dey => 0x88
  | .aslAcc => 0x0A
  | .lsrAcc => 0x4A
  | .rolAcc => 0x2A
  | .rorAcc => 0x6A
  | .rts => 0x60
  | .rti => 0x40
  | .nop => 0xEA
  | .clc => 0x18
  | .sec => 0x38
  | .cli => 0x58
  | .sei => 0x78
  | .cld => 0xD8
  | .sed => 0xF8
  | .clv => 0xB8
  | .jam02 => 0x02
  | .jam12 => 0x12
  | .jam22 => 0x22
  | .jam32 => 0x32
  | .jam42 => 0x42
  | .jam52 => 0x52
  | .jam62 => 0x62
  | .jam72 => 0x72
  | .jam92 => 0x92
  | .jamB2 => 0xB2
  | .jamD2 => 0xD2
  | .jamF2 => 0xF2
  | .nopImp1A => 0x1A
  | .nopImp3A => 0x3A
  | .nopImp5A => 0x5A
  | .nopImp7A => 0x7A
  | .nopImpDA => 0xDA
  | .nopImpFA => 0xFA

/-- The operand bytes of an instruction in memory order (R404). -/
def Instr.operandBytes : Instr → List Byte
  | .ldaIzx b => [b]
  | .ldaZp b => [b]
  | .ldaImm b => [b]
  | .ldaAbs a => [loByte a, hiByte a]
  | .ldaIzy b => [b]
  | .ldaZpx b => [b]
  | .ldaAby a => [loByte a, hiByte a]
  | .ldaAbx a => [loByte a, hiByte a]
  | .ldxImm b => [b]
  | .ldxZp b => [b]
  | .ldxAbs a => [loByte a, hiByte a]
  | .ldxZpy b => [b]
  | .ldxAby a => [loByte a, hiByte a]
  | .ldyImm b => [b]
  | .ldyZp b => [b]
  | .ldyAbs a => [loByte a, hiByte a]
  | .ldyZpx b => [b]
  | .ldyAbx a => [loByte a, hiByte a]
  | .staIzx b => [b]
  | .staZp b => [b]
  | .staAbs a => [loByte a, hiByte a]
  | .staIzy b => [b]
  | .staZpx b => [b]
  | .staAby a => [loByte a, hiByte a]
  | .staAbx a => [loByte a, hiByte a]
  | .stxZp b => [b]
  | .stxAbs a => [loByte a, hiByte a]
  | .stxZpy b => [b]
  | .styZp b => [b]
  | .styAbs a => [loByte a, hiByte a]
  | .styZpx b => [b]
  | .adcIzx b => [b]
  | .adcZp b => [b]
  | .adcImm b => [b]
  | .adcAbs a => [loByte a, hiByte a]
  | .adcIzy b => [b]
  | .adcZpx b => [b]
  | .adcAby a => [loByte a, hiByte a]
  | .adcAbx a => [loByte a, hiByte a]
  | .sbcIzx b => [b]
  | .sbcZp b => [b]
  | .sbcImm b => [b]
  | .sbcAbs a => [loByte a, hiByte a]
  | .sbcIzy b => [b]
  | .sbcZpx b => [b]
  | .sbcAby a => [loByte a, hiByte a]
  | .sbcAbx a => [loByte a, hiByte a]
  | .cmpIzx b => [b]
  | .cmpZp b => [b]
  | .cmpImm b => [b]
  | .cmpAbs a => [loByte a, hiByte a]
  | .cmpIzy b => [b]
  | .cmpZpx b => [b]
  | .cmpAby a => [loByte a, hiByte a]
  | .cmpAbx a => [loByte a, hiByte a]
  | .cpxImm b => [b]
  | .cpxZp b => [b]
  | .cpxAbs a => [loByte a, hiByte a]
  | .cpyImm b => [b]
  | .cpyZp b => [b]
  | .cpyAbs a => [loByte a, hiByte a]
  | .incZp b => [b]
  | .incAbs a => [loByte a, hiByte a]
  | .incZpx b => [b]
  | .incAbx a => [loByte a, hiByte a]
  | .decZp b => [b]
  | .decAbs a => [loByte a, hiByte a]
  | .decZpx b => [b]
  | .decAbx a => [loByte a, hiByte a]
  | .andIzx b => [b]
  | .andZp b => [b]
  | .andImm b => [b]
  | .andAbs a => [loByte a, hiByte a]
  | .andIzy b => [b]
  | .andZpx b => [b]
  | .andAby a => [loByte a, hiByte a]
  | .andAbx a => [loByte a, hiByte a]
  | .oraIzx b => [b]
  | .oraZp b => [b]
  | .oraImm b => [b]
  | .oraAbs a => [loByte a, hiByte a]
  | .oraIzy b => [b]
  | .oraZpx b => [b]
  | .oraAby a => [loByte a, hiByte a]
  | .oraAbx a => [loByte a, hiByte a]
  | .eorIzx b => [b]
  | .eorZp b => [b]
  | .eorImm b => [b]
  | .eorAbs a => [loByte a, hiByte a]
  | .eorIzy b => [b]
  | .eorZpx b => [b]
  | .eorAby a => [loByte a, hiByte a]
  | .eorAbx a => [loByte a, hiByte a]
  | .bitZp b => [b]
  | .bitAbs a => [loByte a, hiByte a]
  | .aslZp b => [b]
  | .aslAbs a => [loByte a, hiByte a]
  | .aslZpx b => [b]
  | .aslAbx a => [loByte a, hiByte a]
  | .lsrZp b => [b]
  | .lsrAbs a => [loByte a, hiByte a]
  | .lsrZpx b => [b]
  | .lsrAbx a => [loByte a, hiByte a]
  | .rolZp b => [b]
  | .rolAbs a => [loByte a, hiByte a]
  | .rolZpx b => [b]
  | .rolAbx a => [loByte a, hiByte a]
  | .rorZp b => [b]
  | .rorAbs a => [loByte a, hiByte a]
  | .rorZpx b => [b]
  | .rorAbx a => [loByte a, hiByte a]
  | .bcc b => [b]
  | .bcs b => [b]
  | .beq b => [b]
  | .bne b => [b]
  | .bmi b => [b]
  | .bpl b => [b]
  | .bvc b => [b]
  | .bvs b => [b]
  | .jmpAbs a => [loByte a, hiByte a]
  | .jmpInd a => [loByte a, hiByte a]
  | .jsr a => [loByte a, hiByte a]
  | .brk b => [b]
  | .sloIzx b => [b]
  | .sloZp b => [b]
  | .sloAbs a => [loByte a, hiByte a]
  | .sloIzy b => [b]
  | .sloZpx b => [b]
  | .sloAby a => [loByte a, hiByte a]
  | .sloAbx a => [loByte a, hiByte a]
  | .rlaIzx b => [b]
  | .rlaZp b => [b]
  | .rlaAbs a => [loByte a, hiByte a]
  | .rlaIzy b => [b]
  | .rlaZpx b => [b]
  | .rlaAby a => [loByte a, hiByte a]
  | .rlaAbx a => [loByte a, hiByte a]
  | .sreIzx b => [b]
  | .sreZp b => [b]
  | .sreAbs a => [loByte a, hiByte a]
  | .sreIzy b => [b]
  | .sreZpx b => [b]
  | .sreAby a => [loByte a, hiByte a]
  | .sreAbx a => [loByte a, hiByte a]
  | .rraIzx b => [b]
  | .rraZp b => [b]
  | .rraAbs a => [loByte a, hiByte a]
  | .rraIzy b => [b]
  | .rraZpx b => [b]
  | .rraAby a => [loByte a, hiByte a]
  | .rraAbx a => [loByte a, hiByte a]
  | .saxIzx b => [b]
  | .saxZp b => [b]
  | .saxAbs a => [loByte a, hiByte a]
  | .saxZpy b => [b]
  | .laxIzx b => [b]
  | .laxZp b => [b]
  | .laxAbs a => [loByte a, hiByte a]
  | .laxIzy b => [b]
  | .laxZpy b => [b]
  | .laxAby a => [loByte a, hiByte a]
  | .dcpIzx b => [b]
  | .dcpZp b => [b]
  | .dcpAbs a => [loByte a, hiByte a]
  | .dcpIzy b => [b]
  | .dcpZpx b => [b]
  | .dcpAby a => [loByte a, hiByte a]
  | .dcpAbx a => [loByte a, hiByte a]
  | .iscIzx b => [b]
  | .iscZp b => [b]
  | .iscAbs a => [loByte a, hiByte a]
  | .iscIzy b => [b]
  | .iscZpx b => [b]
  | .iscAby a => [loByte a, hiByte a]
  | .iscAbx a => [loByte a, hiByte a]
  | .ancImm0B b => [b]
  | .ancImm2B b => [b]
  | .alrImm b => [b]
  | .arrImm b => [b]
  | .axsImm b => [b]
  | .usbcImm b => [b]
  | .nopZp04 b => [b]
  | .nopAbs a => [loByte a, hiByte a]
  | .nopZpx14 b => [b]
  | .nopAbx1C a => [loByte a, hiByte a]
  | .nopZpx34 b => [b]
  | .nopAbx3C a => [loByte a, hiByte a]
  | .nopZp44 b => [b]
  | .nopZpx54 b => [b]
  | .nopAbx5C a => [loByte a, hiByte a]
  | .nopZp64 b => [b]
  | .nopZpx74 b => [b]
  | .nopAbx7C a => [loByte a, hiByte a]
  | .nopImm80 b => [b]
  | .nopImm82 b => [b]
  | .nopImm89 b => [b]
  | .nopImmC2 b => [b]
  | .nopZpxD4 b => [b]
  | .nopAbxDC a => [loByte a, hiByte a]
  | .nopImmE2 b => [b]
  | .nopZpxF4 b => [b]
  | .nopAbxFC a => [loByte a, hiByte a]
  | .lasAby a => [loByte a, hiByte a]
  | .aneImm b => [b]
  | .shaIzy b => [b]
  | .tasAby a => [loByte a, hiByte a]
  | .shyAbx a => [loByte a, hiByte a]
  | .shxAby a => [loByte a, hiByte a]
  | .shaAby a => [loByte a, hiByte a]
  | .lxaImm b => [b]
  | .tax => []
  | .tay => []
  | .txa => []
  | .tya => []
  | .tsx => []
  | .txs => []
  | .pha => []
  | .php => []
  | .pla => []
  | .plp => []
  | .inx => []
  | .iny => []
  | .dex => []
  | .dey => []
  | .aslAcc => []
  | .lsrAcc => []
  | .rolAcc => []
  | .rorAcc => []
  | .rts => []
  | .rti => []
  | .nop => []
  | .clc => []
  | .sec => []
  | .cli => []
  | .sei => []
  | .cld => []
  | .sed => []
  | .clv => []
  | .jam02 => []
  | .jam12 => []
  | .jam22 => []
  | .jam32 => []
  | .jam42 => []
  | .jam52 => []
  | .jam62 => []
  | .jam72 => []
  | .jam92 => []
  | .jamB2 => []
  | .jamD2 => []
  | .jamF2 => []
  | .nopImp1A => []
  | .nopImp3A => []
  | .nopImp5A => []
  | .nopImp7A => []
  | .nopImpDA => []
  | .nopImpFA => []

/-- The bytes of an instruction (R400). -/
def encode (i : Instr) : List Byte := i.opcode :: i.operandBytes

/-- The mnemonic of an instruction's row. -/
def Instr.mnemonic : Instr → Mnemonic
  | .ldaIzx _ => .lda
  | .ldaZp _ => .lda
  | .ldaImm _ => .lda
  | .ldaAbs _ => .lda
  | .ldaIzy _ => .lda
  | .ldaZpx _ => .lda
  | .ldaAby _ => .lda
  | .ldaAbx _ => .lda
  | .ldxImm _ => .ldx
  | .ldxZp _ => .ldx
  | .ldxAbs _ => .ldx
  | .ldxZpy _ => .ldx
  | .ldxAby _ => .ldx
  | .ldyImm _ => .ldy
  | .ldyZp _ => .ldy
  | .ldyAbs _ => .ldy
  | .ldyZpx _ => .ldy
  | .ldyAbx _ => .ldy
  | .staIzx _ => .sta
  | .staZp _ => .sta
  | .staAbs _ => .sta
  | .staIzy _ => .sta
  | .staZpx _ => .sta
  | .staAby _ => .sta
  | .staAbx _ => .sta
  | .stxZp _ => .stx
  | .stxAbs _ => .stx
  | .stxZpy _ => .stx
  | .styZp _ => .sty
  | .styAbs _ => .sty
  | .styZpx _ => .sty
  | .adcIzx _ => .adc
  | .adcZp _ => .adc
  | .adcImm _ => .adc
  | .adcAbs _ => .adc
  | .adcIzy _ => .adc
  | .adcZpx _ => .adc
  | .adcAby _ => .adc
  | .adcAbx _ => .adc
  | .sbcIzx _ => .sbc
  | .sbcZp _ => .sbc
  | .sbcImm _ => .sbc
  | .sbcAbs _ => .sbc
  | .sbcIzy _ => .sbc
  | .sbcZpx _ => .sbc
  | .sbcAby _ => .sbc
  | .sbcAbx _ => .sbc
  | .cmpIzx _ => .cmp
  | .cmpZp _ => .cmp
  | .cmpImm _ => .cmp
  | .cmpAbs _ => .cmp
  | .cmpIzy _ => .cmp
  | .cmpZpx _ => .cmp
  | .cmpAby _ => .cmp
  | .cmpAbx _ => .cmp
  | .cpxImm _ => .cpx
  | .cpxZp _ => .cpx
  | .cpxAbs _ => .cpx
  | .cpyImm _ => .cpy
  | .cpyZp _ => .cpy
  | .cpyAbs _ => .cpy
  | .incZp _ => .inc
  | .incAbs _ => .inc
  | .incZpx _ => .inc
  | .incAbx _ => .inc
  | .decZp _ => .dec
  | .decAbs _ => .dec
  | .decZpx _ => .dec
  | .decAbx _ => .dec
  | .andIzx _ => .and
  | .andZp _ => .and
  | .andImm _ => .and
  | .andAbs _ => .and
  | .andIzy _ => .and
  | .andZpx _ => .and
  | .andAby _ => .and
  | .andAbx _ => .and
  | .oraIzx _ => .ora
  | .oraZp _ => .ora
  | .oraImm _ => .ora
  | .oraAbs _ => .ora
  | .oraIzy _ => .ora
  | .oraZpx _ => .ora
  | .oraAby _ => .ora
  | .oraAbx _ => .ora
  | .eorIzx _ => .eor
  | .eorZp _ => .eor
  | .eorImm _ => .eor
  | .eorAbs _ => .eor
  | .eorIzy _ => .eor
  | .eorZpx _ => .eor
  | .eorAby _ => .eor
  | .eorAbx _ => .eor
  | .bitZp _ => .bit
  | .bitAbs _ => .bit
  | .aslZp _ => .asl
  | .aslAbs _ => .asl
  | .aslZpx _ => .asl
  | .aslAbx _ => .asl
  | .lsrZp _ => .lsr
  | .lsrAbs _ => .lsr
  | .lsrZpx _ => .lsr
  | .lsrAbx _ => .lsr
  | .rolZp _ => .rol
  | .rolAbs _ => .rol
  | .rolZpx _ => .rol
  | .rolAbx _ => .rol
  | .rorZp _ => .ror
  | .rorAbs _ => .ror
  | .rorZpx _ => .ror
  | .rorAbx _ => .ror
  | .bcc _ => .bcc
  | .bcs _ => .bcs
  | .beq _ => .beq
  | .bne _ => .bne
  | .bmi _ => .bmi
  | .bpl _ => .bpl
  | .bvc _ => .bvc
  | .bvs _ => .bvs
  | .jmpAbs _ => .jmp
  | .jmpInd _ => .jmp
  | .jsr _ => .jsr
  | .brk _ => .brk
  | .sloIzx _ => .slo
  | .sloZp _ => .slo
  | .sloAbs _ => .slo
  | .sloIzy _ => .slo
  | .sloZpx _ => .slo
  | .sloAby _ => .slo
  | .sloAbx _ => .slo
  | .rlaIzx _ => .rla
  | .rlaZp _ => .rla
  | .rlaAbs _ => .rla
  | .rlaIzy _ => .rla
  | .rlaZpx _ => .rla
  | .rlaAby _ => .rla
  | .rlaAbx _ => .rla
  | .sreIzx _ => .sre
  | .sreZp _ => .sre
  | .sreAbs _ => .sre
  | .sreIzy _ => .sre
  | .sreZpx _ => .sre
  | .sreAby _ => .sre
  | .sreAbx _ => .sre
  | .rraIzx _ => .rra
  | .rraZp _ => .rra
  | .rraAbs _ => .rra
  | .rraIzy _ => .rra
  | .rraZpx _ => .rra
  | .rraAby _ => .rra
  | .rraAbx _ => .rra
  | .saxIzx _ => .sax
  | .saxZp _ => .sax
  | .saxAbs _ => .sax
  | .saxZpy _ => .sax
  | .laxIzx _ => .lax
  | .laxZp _ => .lax
  | .laxAbs _ => .lax
  | .laxIzy _ => .lax
  | .laxZpy _ => .lax
  | .laxAby _ => .lax
  | .dcpIzx _ => .dcp
  | .dcpZp _ => .dcp
  | .dcpAbs _ => .dcp
  | .dcpIzy _ => .dcp
  | .dcpZpx _ => .dcp
  | .dcpAby _ => .dcp
  | .dcpAbx _ => .dcp
  | .iscIzx _ => .isc
  | .iscZp _ => .isc
  | .iscAbs _ => .isc
  | .iscIzy _ => .isc
  | .iscZpx _ => .isc
  | .iscAby _ => .isc
  | .iscAbx _ => .isc
  | .ancImm0B _ => .anc
  | .ancImm2B _ => .anc
  | .alrImm _ => .alr
  | .arrImm _ => .arr
  | .axsImm _ => .axs
  | .usbcImm _ => .usbc
  | .nopZp04 _ => .nop
  | .nopAbs _ => .nop
  | .nopZpx14 _ => .nop
  | .nopAbx1C _ => .nop
  | .nopZpx34 _ => .nop
  | .nopAbx3C _ => .nop
  | .nopZp44 _ => .nop
  | .nopZpx54 _ => .nop
  | .nopAbx5C _ => .nop
  | .nopZp64 _ => .nop
  | .nopZpx74 _ => .nop
  | .nopAbx7C _ => .nop
  | .nopImm80 _ => .nop
  | .nopImm82 _ => .nop
  | .nopImm89 _ => .nop
  | .nopImmC2 _ => .nop
  | .nopZpxD4 _ => .nop
  | .nopAbxDC _ => .nop
  | .nopImmE2 _ => .nop
  | .nopZpxF4 _ => .nop
  | .nopAbxFC _ => .nop
  | .lasAby _ => .las
  | .aneImm _ => .ane
  | .shaIzy _ => .sha
  | .tasAby _ => .tas
  | .shyAbx _ => .shy
  | .shxAby _ => .shx
  | .shaAby _ => .sha
  | .lxaImm _ => .lxa
  | .tax => .tax
  | .tay => .tay
  | .txa => .txa
  | .tya => .tya
  | .tsx => .tsx
  | .txs => .txs
  | .pha => .pha
  | .php => .php
  | .pla => .pla
  | .plp => .plp
  | .inx => .inx
  | .iny => .iny
  | .dex => .dex
  | .dey => .dey
  | .aslAcc => .asl
  | .lsrAcc => .lsr
  | .rolAcc => .rol
  | .rorAcc => .ror
  | .rts => .rts
  | .rti => .rti
  | .nop => .nop
  | .clc => .clc
  | .sec => .sec
  | .cli => .cli
  | .sei => .sei
  | .cld => .cld
  | .sed => .sed
  | .clv => .clv
  | .jam02 => .jam
  | .jam12 => .jam
  | .jam22 => .jam
  | .jam32 => .jam
  | .jam42 => .jam
  | .jam52 => .jam
  | .jam62 => .jam
  | .jam72 => .jam
  | .jam92 => .jam
  | .jamB2 => .jam
  | .jamD2 => .jam
  | .jamF2 => .jam
  | .nopImp1A => .nop
  | .nopImp3A => .nop
  | .nopImp5A => .nop
  | .nopImp7A => .nop
  | .nopImpDA => .nop
  | .nopImpFA => .nop

/-- The effective-address mode and operand of an instruction whose row has one of the eight memory modes (R504–R511).
JMP and JSR use their 16-bit operand as a target and have none. -/
def Instr.addressing : Instr → Option Addressing
  | .ldaIzx z => some (.izx z)
  | .ldaZp z => some (.zp z)
  | .ldaImm _ => none
  | .ldaAbs a => some (.abs a)
  | .ldaIzy z => some (.izy z)
  | .ldaZpx z => some (.zpx z)
  | .ldaAby a => some (.aby a)
  | .ldaAbx a => some (.abx a)
  | .ldxImm _ => none
  | .ldxZp z => some (.zp z)
  | .ldxAbs a => some (.abs a)
  | .ldxZpy z => some (.zpy z)
  | .ldxAby a => some (.aby a)
  | .ldyImm _ => none
  | .ldyZp z => some (.zp z)
  | .ldyAbs a => some (.abs a)
  | .ldyZpx z => some (.zpx z)
  | .ldyAbx a => some (.abx a)
  | .staIzx z => some (.izx z)
  | .staZp z => some (.zp z)
  | .staAbs a => some (.abs a)
  | .staIzy z => some (.izy z)
  | .staZpx z => some (.zpx z)
  | .staAby a => some (.aby a)
  | .staAbx a => some (.abx a)
  | .stxZp z => some (.zp z)
  | .stxAbs a => some (.abs a)
  | .stxZpy z => some (.zpy z)
  | .styZp z => some (.zp z)
  | .styAbs a => some (.abs a)
  | .styZpx z => some (.zpx z)
  | .adcIzx z => some (.izx z)
  | .adcZp z => some (.zp z)
  | .adcImm _ => none
  | .adcAbs a => some (.abs a)
  | .adcIzy z => some (.izy z)
  | .adcZpx z => some (.zpx z)
  | .adcAby a => some (.aby a)
  | .adcAbx a => some (.abx a)
  | .sbcIzx z => some (.izx z)
  | .sbcZp z => some (.zp z)
  | .sbcImm _ => none
  | .sbcAbs a => some (.abs a)
  | .sbcIzy z => some (.izy z)
  | .sbcZpx z => some (.zpx z)
  | .sbcAby a => some (.aby a)
  | .sbcAbx a => some (.abx a)
  | .cmpIzx z => some (.izx z)
  | .cmpZp z => some (.zp z)
  | .cmpImm _ => none
  | .cmpAbs a => some (.abs a)
  | .cmpIzy z => some (.izy z)
  | .cmpZpx z => some (.zpx z)
  | .cmpAby a => some (.aby a)
  | .cmpAbx a => some (.abx a)
  | .cpxImm _ => none
  | .cpxZp z => some (.zp z)
  | .cpxAbs a => some (.abs a)
  | .cpyImm _ => none
  | .cpyZp z => some (.zp z)
  | .cpyAbs a => some (.abs a)
  | .incZp z => some (.zp z)
  | .incAbs a => some (.abs a)
  | .incZpx z => some (.zpx z)
  | .incAbx a => some (.abx a)
  | .decZp z => some (.zp z)
  | .decAbs a => some (.abs a)
  | .decZpx z => some (.zpx z)
  | .decAbx a => some (.abx a)
  | .andIzx z => some (.izx z)
  | .andZp z => some (.zp z)
  | .andImm _ => none
  | .andAbs a => some (.abs a)
  | .andIzy z => some (.izy z)
  | .andZpx z => some (.zpx z)
  | .andAby a => some (.aby a)
  | .andAbx a => some (.abx a)
  | .oraIzx z => some (.izx z)
  | .oraZp z => some (.zp z)
  | .oraImm _ => none
  | .oraAbs a => some (.abs a)
  | .oraIzy z => some (.izy z)
  | .oraZpx z => some (.zpx z)
  | .oraAby a => some (.aby a)
  | .oraAbx a => some (.abx a)
  | .eorIzx z => some (.izx z)
  | .eorZp z => some (.zp z)
  | .eorImm _ => none
  | .eorAbs a => some (.abs a)
  | .eorIzy z => some (.izy z)
  | .eorZpx z => some (.zpx z)
  | .eorAby a => some (.aby a)
  | .eorAbx a => some (.abx a)
  | .bitZp z => some (.zp z)
  | .bitAbs a => some (.abs a)
  | .aslZp z => some (.zp z)
  | .aslAbs a => some (.abs a)
  | .aslZpx z => some (.zpx z)
  | .aslAbx a => some (.abx a)
  | .lsrZp z => some (.zp z)
  | .lsrAbs a => some (.abs a)
  | .lsrZpx z => some (.zpx z)
  | .lsrAbx a => some (.abx a)
  | .rolZp z => some (.zp z)
  | .rolAbs a => some (.abs a)
  | .rolZpx z => some (.zpx z)
  | .rolAbx a => some (.abx a)
  | .rorZp z => some (.zp z)
  | .rorAbs a => some (.abs a)
  | .rorZpx z => some (.zpx z)
  | .rorAbx a => some (.abx a)
  | .bcc _ => none
  | .bcs _ => none
  | .beq _ => none
  | .bne _ => none
  | .bmi _ => none
  | .bpl _ => none
  | .bvc _ => none
  | .bvs _ => none
  | .jmpAbs _ => none
  | .jmpInd _ => none
  | .jsr _ => none
  | .brk _ => none
  | .sloIzx z => some (.izx z)
  | .sloZp z => some (.zp z)
  | .sloAbs a => some (.abs a)
  | .sloIzy z => some (.izy z)
  | .sloZpx z => some (.zpx z)
  | .sloAby a => some (.aby a)
  | .sloAbx a => some (.abx a)
  | .rlaIzx z => some (.izx z)
  | .rlaZp z => some (.zp z)
  | .rlaAbs a => some (.abs a)
  | .rlaIzy z => some (.izy z)
  | .rlaZpx z => some (.zpx z)
  | .rlaAby a => some (.aby a)
  | .rlaAbx a => some (.abx a)
  | .sreIzx z => some (.izx z)
  | .sreZp z => some (.zp z)
  | .sreAbs a => some (.abs a)
  | .sreIzy z => some (.izy z)
  | .sreZpx z => some (.zpx z)
  | .sreAby a => some (.aby a)
  | .sreAbx a => some (.abx a)
  | .rraIzx z => some (.izx z)
  | .rraZp z => some (.zp z)
  | .rraAbs a => some (.abs a)
  | .rraIzy z => some (.izy z)
  | .rraZpx z => some (.zpx z)
  | .rraAby a => some (.aby a)
  | .rraAbx a => some (.abx a)
  | .saxIzx z => some (.izx z)
  | .saxZp z => some (.zp z)
  | .saxAbs a => some (.abs a)
  | .saxZpy z => some (.zpy z)
  | .laxIzx z => some (.izx z)
  | .laxZp z => some (.zp z)
  | .laxAbs a => some (.abs a)
  | .laxIzy z => some (.izy z)
  | .laxZpy z => some (.zpy z)
  | .laxAby a => some (.aby a)
  | .dcpIzx z => some (.izx z)
  | .dcpZp z => some (.zp z)
  | .dcpAbs a => some (.abs a)
  | .dcpIzy z => some (.izy z)
  | .dcpZpx z => some (.zpx z)
  | .dcpAby a => some (.aby a)
  | .dcpAbx a => some (.abx a)
  | .iscIzx z => some (.izx z)
  | .iscZp z => some (.zp z)
  | .iscAbs a => some (.abs a)
  | .iscIzy z => some (.izy z)
  | .iscZpx z => some (.zpx z)
  | .iscAby a => some (.aby a)
  | .iscAbx a => some (.abx a)
  | .ancImm0B _ => none
  | .ancImm2B _ => none
  | .alrImm _ => none
  | .arrImm _ => none
  | .axsImm _ => none
  | .usbcImm _ => none
  | .nopZp04 z => some (.zp z)
  | .nopAbs a => some (.abs a)
  | .nopZpx14 z => some (.zpx z)
  | .nopAbx1C a => some (.abx a)
  | .nopZpx34 z => some (.zpx z)
  | .nopAbx3C a => some (.abx a)
  | .nopZp44 z => some (.zp z)
  | .nopZpx54 z => some (.zpx z)
  | .nopAbx5C a => some (.abx a)
  | .nopZp64 z => some (.zp z)
  | .nopZpx74 z => some (.zpx z)
  | .nopAbx7C a => some (.abx a)
  | .nopImm80 _ => none
  | .nopImm82 _ => none
  | .nopImm89 _ => none
  | .nopImmC2 _ => none
  | .nopZpxD4 z => some (.zpx z)
  | .nopAbxDC a => some (.abx a)
  | .nopImmE2 _ => none
  | .nopZpxF4 z => some (.zpx z)
  | .nopAbxFC a => some (.abx a)
  | .lasAby a => some (.aby a)
  | .aneImm _ => none
  | .shaIzy z => some (.izy z)
  | .tasAby a => some (.aby a)
  | .shyAbx a => some (.abx a)
  | .shxAby a => some (.aby a)
  | .shaAby a => some (.aby a)
  | .lxaImm _ => none
  | .tax => none
  | .tay => none
  | .txa => none
  | .tya => none
  | .tsx => none
  | .txs => none
  | .pha => none
  | .php => none
  | .pla => none
  | .plp => none
  | .inx => none
  | .iny => none
  | .dex => none
  | .dey => none
  | .aslAcc => none
  | .lsrAcc => none
  | .rolAcc => none
  | .rorAcc => none
  | .rts => none
  | .rti => none
  | .nop => none
  | .clc => none
  | .sec => none
  | .cli => none
  | .sei => none
  | .cld => none
  | .sed => none
  | .clv => none
  | .jam02 => none
  | .jam12 => none
  | .jam22 => none
  | .jam32 => none
  | .jam42 => none
  | .jam52 => none
  | .jam62 => none
  | .jam72 => none
  | .jam92 => none
  | .jamB2 => none
  | .jamD2 => none
  | .jamF2 => none
  | .nopImp1A => none
  | .nopImp3A => none
  | .nopImp5A => none
  | .nopImp7A => none
  | .nopImpDA => none
  | .nopImpFA => none

/-- The immediate operand of an instruction whose row has mode IMM (R503). -/
def Instr.immediate : Instr → Option Byte
  | .ldaIzx _ => none
  | .ldaZp _ => none
  | .ldaImm m => some m
  | .ldaAbs _ => none
  | .ldaIzy _ => none
  | .ldaZpx _ => none
  | .ldaAby _ => none
  | .ldaAbx _ => none
  | .ldxImm m => some m
  | .ldxZp _ => none
  | .ldxAbs _ => none
  | .ldxZpy _ => none
  | .ldxAby _ => none
  | .ldyImm m => some m
  | .ldyZp _ => none
  | .ldyAbs _ => none
  | .ldyZpx _ => none
  | .ldyAbx _ => none
  | .staIzx _ => none
  | .staZp _ => none
  | .staAbs _ => none
  | .staIzy _ => none
  | .staZpx _ => none
  | .staAby _ => none
  | .staAbx _ => none
  | .stxZp _ => none
  | .stxAbs _ => none
  | .stxZpy _ => none
  | .styZp _ => none
  | .styAbs _ => none
  | .styZpx _ => none
  | .adcIzx _ => none
  | .adcZp _ => none
  | .adcImm m => some m
  | .adcAbs _ => none
  | .adcIzy _ => none
  | .adcZpx _ => none
  | .adcAby _ => none
  | .adcAbx _ => none
  | .sbcIzx _ => none
  | .sbcZp _ => none
  | .sbcImm m => some m
  | .sbcAbs _ => none
  | .sbcIzy _ => none
  | .sbcZpx _ => none
  | .sbcAby _ => none
  | .sbcAbx _ => none
  | .cmpIzx _ => none
  | .cmpZp _ => none
  | .cmpImm m => some m
  | .cmpAbs _ => none
  | .cmpIzy _ => none
  | .cmpZpx _ => none
  | .cmpAby _ => none
  | .cmpAbx _ => none
  | .cpxImm m => some m
  | .cpxZp _ => none
  | .cpxAbs _ => none
  | .cpyImm m => some m
  | .cpyZp _ => none
  | .cpyAbs _ => none
  | .incZp _ => none
  | .incAbs _ => none
  | .incZpx _ => none
  | .incAbx _ => none
  | .decZp _ => none
  | .decAbs _ => none
  | .decZpx _ => none
  | .decAbx _ => none
  | .andIzx _ => none
  | .andZp _ => none
  | .andImm m => some m
  | .andAbs _ => none
  | .andIzy _ => none
  | .andZpx _ => none
  | .andAby _ => none
  | .andAbx _ => none
  | .oraIzx _ => none
  | .oraZp _ => none
  | .oraImm m => some m
  | .oraAbs _ => none
  | .oraIzy _ => none
  | .oraZpx _ => none
  | .oraAby _ => none
  | .oraAbx _ => none
  | .eorIzx _ => none
  | .eorZp _ => none
  | .eorImm m => some m
  | .eorAbs _ => none
  | .eorIzy _ => none
  | .eorZpx _ => none
  | .eorAby _ => none
  | .eorAbx _ => none
  | .bitZp _ => none
  | .bitAbs _ => none
  | .aslZp _ => none
  | .aslAbs _ => none
  | .aslZpx _ => none
  | .aslAbx _ => none
  | .lsrZp _ => none
  | .lsrAbs _ => none
  | .lsrZpx _ => none
  | .lsrAbx _ => none
  | .rolZp _ => none
  | .rolAbs _ => none
  | .rolZpx _ => none
  | .rolAbx _ => none
  | .rorZp _ => none
  | .rorAbs _ => none
  | .rorZpx _ => none
  | .rorAbx _ => none
  | .bcc _ => none
  | .bcs _ => none
  | .beq _ => none
  | .bne _ => none
  | .bmi _ => none
  | .bpl _ => none
  | .bvc _ => none
  | .bvs _ => none
  | .jmpAbs _ => none
  | .jmpInd _ => none
  | .jsr _ => none
  | .brk _ => none
  | .sloIzx _ => none
  | .sloZp _ => none
  | .sloAbs _ => none
  | .sloIzy _ => none
  | .sloZpx _ => none
  | .sloAby _ => none
  | .sloAbx _ => none
  | .rlaIzx _ => none
  | .rlaZp _ => none
  | .rlaAbs _ => none
  | .rlaIzy _ => none
  | .rlaZpx _ => none
  | .rlaAby _ => none
  | .rlaAbx _ => none
  | .sreIzx _ => none
  | .sreZp _ => none
  | .sreAbs _ => none
  | .sreIzy _ => none
  | .sreZpx _ => none
  | .sreAby _ => none
  | .sreAbx _ => none
  | .rraIzx _ => none
  | .rraZp _ => none
  | .rraAbs _ => none
  | .rraIzy _ => none
  | .rraZpx _ => none
  | .rraAby _ => none
  | .rraAbx _ => none
  | .saxIzx _ => none
  | .saxZp _ => none
  | .saxAbs _ => none
  | .saxZpy _ => none
  | .laxIzx _ => none
  | .laxZp _ => none
  | .laxAbs _ => none
  | .laxIzy _ => none
  | .laxZpy _ => none
  | .laxAby _ => none
  | .dcpIzx _ => none
  | .dcpZp _ => none
  | .dcpAbs _ => none
  | .dcpIzy _ => none
  | .dcpZpx _ => none
  | .dcpAby _ => none
  | .dcpAbx _ => none
  | .iscIzx _ => none
  | .iscZp _ => none
  | .iscAbs _ => none
  | .iscIzy _ => none
  | .iscZpx _ => none
  | .iscAby _ => none
  | .iscAbx _ => none
  | .ancImm0B m => some m
  | .ancImm2B m => some m
  | .alrImm m => some m
  | .arrImm m => some m
  | .axsImm m => some m
  | .usbcImm m => some m
  | .nopZp04 _ => none
  | .nopAbs _ => none
  | .nopZpx14 _ => none
  | .nopAbx1C _ => none
  | .nopZpx34 _ => none
  | .nopAbx3C _ => none
  | .nopZp44 _ => none
  | .nopZpx54 _ => none
  | .nopAbx5C _ => none
  | .nopZp64 _ => none
  | .nopZpx74 _ => none
  | .nopAbx7C _ => none
  | .nopImm80 m => some m
  | .nopImm82 m => some m
  | .nopImm89 m => some m
  | .nopImmC2 m => some m
  | .nopZpxD4 _ => none
  | .nopAbxDC _ => none
  | .nopImmE2 m => some m
  | .nopZpxF4 _ => none
  | .nopAbxFC _ => none
  | .lasAby _ => none
  | .aneImm m => some m
  | .shaIzy _ => none
  | .tasAby _ => none
  | .shyAbx _ => none
  | .shxAby _ => none
  | .shaAby _ => none
  | .lxaImm m => some m
  | .tax => none
  | .tay => none
  | .txa => none
  | .tya => none
  | .tsx => none
  | .txs => none
  | .pha => none
  | .php => none
  | .pla => none
  | .plp => none
  | .inx => none
  | .iny => none
  | .dex => none
  | .dey => none
  | .aslAcc => none
  | .lsrAcc => none
  | .rolAcc => none
  | .rorAcc => none
  | .rts => none
  | .rti => none
  | .nop => none
  | .clc => none
  | .sec => none
  | .cli => none
  | .sei => none
  | .cld => none
  | .sed => none
  | .clv => none
  | .jam02 => none
  | .jam12 => none
  | .jam22 => none
  | .jam32 => none
  | .jam42 => none
  | .jam52 => none
  | .jam62 => none
  | .jam72 => none
  | .jam92 => none
  | .jamB2 => none
  | .jamD2 => none
  | .jamF2 => none
  | .nopImp1A => none
  | .nopImp3A => none
  | .nopImp5A => none
  | .nopImp7A => none
  | .nopImpDA => none
  | .nopImpFA => none

/-- The source operand of an instruction: its immediate byte or its memory mode (R514). -/
def Instr.source (i : Instr) : Option Source :=
  match i.immediate with
  | some m => some (.imm m)
  | none => i.addressing.map .mem

/-- The 105 undocumented opcodes of R407, by mnemonic and opcode byte: NOP is undocumented at every byte but 0xEA. -/
def Instr.undocumented (i : Instr) : Bool :=
  match i.mnemonic with
  | .jam | .slo | .rla | .sre | .rra | .sax | .lax | .dcp | .isc => true
  | .anc | .alr | .arr | .axs | .usbc | .las => true
  | .ane | .lxa | .sha | .tas | .shy | .shx => true
  | .nop => i.opcode != 0xEA
  | _ => false

/-- The instruction that bits w, numbered as spec/opcode_table.json numbers them (byte k is bits 8k+7..8k), encode; bits
at nbits and above are 0. -/
def decodeTableWord (nbits w : Nat) : Option Instr :=
  match decode (tableBytes nbits w) with
  | .ok (i, _) => some i
  | .error _ => none
where
  /-- The three bytes of the longest instruction, first byte at the lowest address. -/
  tableBytes (nbits w : Nat) : List Byte :=
    let v := w % 2 ^ nbits
    [BitVec.ofNat 8 v, BitVec.ofNat 8 (v / 256), BitVec.ofNat 8 (v / 65536)]

end Sys2Proof
end

