-- ==== Sys2Proof/Machine/State.lean ====
section
/-! DEFINITION. The machine's state as plain data (10_state.md, 20_memory.md, 21_cartridge_mappers.md, 61_ppu.md, 62_apu.md,
60_exceptions.md), the reasons a step can stop, and the state after `power()` with a blank cartridge inserted (log 1). -/

namespace Sys2Proof.Machine

/-- The CPU record of 10_state.md R100, but for the pending bits (`Pending`). -/
structure Cpu where
  a      : Byte
  x      : Byte
  y      : Byte
  s      : Byte
  pc     : Word
  n      : Bool
  v      : Bool
  d      : Bool
  i      : Bool
  z      : Bool
  c      : Bool
  /-- 1 only after a JAM under `nmos` (R119). -/
  halted : Bool
  /-- Opcode and address of an IllegalOpcode (R119, 60_exceptions.md R830). -/
  fault  : Option (Byte × Word)
deriving DecidableEq, Repr

/-- The interrupt-pending bitmask (10_state.md R116, R117). `irqApu` is the APU's frameIrq (62_apu.md R1022), `irqDmc` the
DMC's irqFlag (R1044) and `irqMapper` the MMC3's (21_cartridge_mappers.md R368): one home each. -/
structure Pending where
  reset     : Bool
  nmi       : Bool
  irqApu    : Bool
  irqDmc    : Bool
  irqMapper : Bool
deriving DecidableEq, Repr

/-- MMC1 registers (21_cartridge_mappers.md R340). -/
structure Mmc1 where
  shift       : BitVec 5
  writesCount : Nat
  control     : BitVec 5
  chr0        : BitVec 5
  chr1        : BitVec 5
  prg         : BitVec 5
  /-- The CHR register written last: false chr0, true chr1. -/
  lastChr     : Bool
  snrom       : Bool
deriving DecidableEq, Repr

/-- MMC3 registers (21_cartridge_mappers.md R360); `r` is R0 to R7. -/
structure Mmc3 where
  bankSelect : Byte
  r          : List Byte
  irqLatch   : Byte
  irqCounter : Byte
  irqReload  : Bool
  irqEnabled : Bool
deriving DecidableEq, Repr

/-- The nine mapper machines (21_cartridge_mappers.md R313). The discrete ones hold nothing but the banking state. -/
inductive Chip where
  | nrom
  | mmc1 (m : Mmc1)
  | unrom
  | cnrom
  | mmc3 (m : Mmc3)
  | aorom
  | colorDreams
  | bnrom
  | nina001
deriving DecidableEq, Repr

/-- The banking state of every mapper (21_cartridge_mappers.md R321) and its chip. -/
structure Mapper where
  chip      : Chip
  /-- The 8 KiB PRG ROM bank at 0x8000 + 0x2000·w, for w = 0..3. -/
  prgMap    : List Nat
  /-- The 1 KiB CHR bank at PPU 0x0400·u, for u = 0..7. -/
  chrMap    : List Nat
  prgRamMap : Nat
  prgRamOn  : Bool
  prgRamWE  : Bool
  mirroring : Mirroring
deriving DecidableEq, Repr

/-- Background latches and shift registers (61_ppu.md R940, R941). -/
structure Background where
  ntByte : Byte
  atBits : BitVec 2
  patLo  : Byte
  patHi  : Byte
  bgLo   : BitVec 16
  bgHi   : BitVec 16
  atLo   : BitVec 16
  atHi   : BitVec 16
deriving DecidableEq, Repr

/-- One sprite output unit (61_ppu.md R953): the entry's Y, tile and attribute bytes, the X down-counter, the shift pair. -/
structure SpriteUnit where
  y    : Byte
  tile : Byte
  attr : Byte
  x    : Byte
  lo   : Byte
  hi   : Byte
deriving DecidableEq, Repr

/-- The PPU record (61_ppu.md R900). -/
structure Ppu where
  ctrl           : Byte
  mask           : Byte
  vblank         : Bool
  spr0Hit        : Bool
  sprOverflow    : Bool
  oamAddr        : Byte
  v              : BitVec 15
  t              : BitVec 15
  x              : BitVec 3
  w              : Bool
  readBuf        : Byte
  /-- −1 .. lastLine (R920). -/
  scanline       : Int
  /-- 0 .. 340 (R920). -/
  dot            : Nat
  oddFrame       : Bool
  frameAvailable : Bool
  oam            : Mem
  palette        : Sparse 6
  ntram          : Mem
  bg             : Background
  /-- The line's units in found order, at most eight (R951). -/
  spr            : List SpriteUnit
  /-- Slot 0 holds sprite 0 (R951). -/
  spr0OnLine     : Bool
  /-- The 6-bit colour index of every pixel written since power, at index y·256 + x; a pixel not listed has the power-up
  colour 0 (R901, R970; log 6). -/
  frame          : List (Nat × BitVec 6)
deriving DecidableEq, Repr

/-- An envelope unit (62_apu.md R1000, R1031). -/
structure Envelope where
  start   : Bool
  divider : BitVec 4
  decay   : BitVec 4
deriving DecidableEq, Repr

/-- A pulse channel (62_apu.md R1000). -/
structure Pulse where
  duty        : BitVec 2
  step        : BitVec 3
  halt        : Bool
  constVol    : Bool
  vol         : BitVec 4
  sweepEn     : Bool
  sweepP      : BitVec 3
  sweepNeg    : Bool
  sweepShift  : BitVec 3
  sweepDiv    : BitVec 3
  sweepReload : Bool
  period      : BitVec 11
  timer       : BitVec 11
  length      : Byte
  env         : Envelope
  enabled     : Bool
deriving DecidableEq, Repr

/-- The triangle channel (62_apu.md R1000). -/
structure Triangle where
  control       : Bool
  linReload     : BitVec 7
  linear        : BitVec 7
  linReloadFlag : Bool
  period        : BitVec 11
  timer         : BitVec 11
  step          : BitVec 5
  length        : Byte
  enabled       : Bool
deriving DecidableEq, Repr

/-- The noise channel (62_apu.md R1000). -/
structure Noise where
  halt      : Bool
  constVol  : Bool
  vol       : BitVec 4
  mode      : Bool
  periodIdx : BitVec 4
  timer     : BitVec 12
  lfsr      : BitVec 15
  length    : Byte
  env       : Envelope
  enabled   : Bool
deriving DecidableEq, Repr

/-- The DMC channel (62_apu.md R1040); its irqFlag is `Pending.irqDmc`. -/
structure Dmc where
  irqEnable      : Bool
  loop           : Bool
  rateIdx        : BitVec 4
  outputLevel    : BitVec 7
  sampleAddress  : Word
  sampleLength   : Word
  currentAddress : Word
  bytesRemaining : BitVec 12
  buffer         : Option Byte
  shift          : Byte
  /-- 1 .. 8. -/
  bitsRemaining  : Nat
  silence        : Bool
  timer          : BitVec 9
  fetchPending   : Bool
deriving DecidableEq, Repr

/-- The APU record (62_apu.md R1000); its frameIrq is `Pending.irqApu`. -/
structure Apu where
  cycle      : Nat
  /-- A 0x4017 write restarts the sequencer in the next cycle (R1008, log 14). -/
  seqRestart : Bool
  apuPhase   : Bool
  mode5      : Bool
  irqInhibit : Bool
  pulse1     : Pulse
  pulse2     : Pulse
  triangle   : Triangle
  noise      : Noise
  dmc        : Dmc
deriving DecidableEq, Repr

/-- The model's own counters: how many draws of each kind have been made (log 3). -/
structure Draws where
  openBus  : Nat
  input    : Nat
  dmcStall : Nat
deriving DecidableEq, Repr

/-- The machine. -/
structure State where
  cpu            : Cpu
  pending        : Pending
  /-- Internal RAM, 2 KiB (20_memory.md R206). -/
  ram            : Mem
  /-- The page of the OAM DMA the running instruction has requested (60_exceptions.md R840). -/
  oamDma         : Option Byte
  /-- The input strobe (20_memory.md R205, D21). -/
  strobe         : Bool
  /-- A cartridge is inserted (60_exceptions.md R853). -/
  present        : Bool
  cart           : Cartridge
  mapper         : Mapper
  prgRam         : Mem
  chrRam         : Mem
  ppu            : Ppu
  apu            : Apu
  /-- The hidden PAL dot phase, 0..4 (60_exceptions.md R856). -/
  palPhase       : Nat
  /-- CPU cycles of the current step; after a step, the count it returned (60_exceptions.md R845). -/
  cycles         : Nat
  /-- The host's region override (60_exceptions.md R852). -/
  regionOverride : Option Region
  params         : Params
  draws          : Draws
deriving DecidableEq, Repr

/-- There is no fault that ends a run without a state: every address is routed, every bank index is masked and no
instruction traps (60_exceptions.md R832). The spec's one fault, IllegalOpcode, leaves a state (R830): it is recorded in
`Cpu.fault` by a next state, and the step after it is refused (`Refusal.faulted`). So nothing raises a Fault: the type has
no constructor. -/
inductive Fault where
deriving DecidableEq, Repr

/-- Why a step gives no next state. -/
inductive Refusal where
  /-- Raised by exec's arm of an instruction that has no meaning yet (none is left). Safe. -/
  | notModelled (mnemonic : String)
  /-- Raised by step in the fault state: "faulted state has no step" (60_exceptions.md R800, R830). Safe: the spec's own. -/
  | faulted (opcode : Byte) (address : Word)
  /-- Raised by step with no cartridge inserted (60_exceptions.md R853). Safe: the spec's own. -/
  | noCartridge
deriving DecidableEq, Repr

/-- The blank cartridge of `State.reset` (log 1): what the loader makes of the iNES header 4E 45 53 1A 01 01 and ten zero
bytes followed by zero bytes (95_test_vectors.md E1'): NROM, 16 KiB of PRG ROM, 8 KiB of CHR ROM, 8 KiB of PRG RAM. -/
def blankCartridge : Cartridge where
  mapperId := .nrom
  mapperNum := 0
  submapperId := none
  mirroring := .horizontal
  region := .ntsc
  prgRom := { size := 0x4000, bytes := [] }
  prgRamSize := 0x2000
  prgRamSizeBattery := 0
  chrRom := some { size := 0x2000, bytes := [] }
  chrRamSize := 0
  chrRamSizeBattery := 0

/-- The parameters of `State.reset`: the spec's default policy (D9) and log 5's values. -/
def defaultParams : Params where
  undocPolicy := .fault
  dummyAccesses := false
  colorDreamsMirroring := none
  spriteOverflowBug := false
  ppuClipNtsc := false
  ppuClipPal := false
  ppuPowerPalette := []
  ppuPowerOam := []
  ppuPowerNametables := []

/-- PPU values after `power()` (61_ppu.md R970). DESIGN CHOICE: the fetch latches (ntByte, atBits, patLo, patHi) and the sprite-0
mark, for which R970 gives no value, are 0 (log 41). -/
def powerPpu (p : Params) : Ppu where
  ctrl := 0
  mask := 0
  vblank := false
  spr0Hit := false
  sprOverflow := false
  oamAddr := 0
  v := 0
  t := 0
  x := 0
  w := false
  readBuf := 0
  scanline := -1
  dot := 0
  oddFrame := false
  frameAvailable := false
  oam := p.ppuPowerOam
  palette := p.ppuPowerPalette
  ntram := p.ppuPowerNametables
  bg := { ntByte := 0, atBits := 0, patLo := 0, patHi := 0, bgLo := 0, bgHi := 0, atLo := 0, atHi := 0 }
  spr := []
  spr0OnLine := false
  frame := []

/-- A pulse channel with every field 0 (62_apu.md R1052). -/
def powerPulse : Pulse where
  duty := 0
  step := 0
  halt := false
  constVol := false
  vol := 0
  sweepEn := false
  sweepP := 0
  sweepNeg := false
  sweepShift := 0
  sweepDiv := 0
  sweepReload := false
  period := 0
  timer := 0
  length := 0
  env := { start := false, divider := 0, decay := 0 }
  enabled := false

/-- APU values after `power()` (62_apu.md R1052). -/
def powerApu : Apu where
  cycle := 0
  seqRestart := false
  apuPhase := false
  mode5 := false
  irqInhibit := false
  pulse1 := powerPulse
  pulse2 := powerPulse
  triangle := { control := false, linReload := 0, linear := 0, linReloadFlag := false, period := 0, timer := 0,
                step := 0, length := 0, enabled := false }
  noise := { halt := false, constVol := false, vol := 0, mode := false, periodIdx := 0, timer := 0, lfsr := 1,
             length := 0, env := { start := false, divider := 0, decay := 0 }, enabled := false }
  dmc := { irqEnable := false, loop := false, rateIdx := 0, outputLevel := 0, sampleAddress := 0xC000,
           sampleLength := 1, currentAddress := 0, bytesRemaining := 0, buffer := none, shift := 0,
           bitsRemaining := 8, silence := true, timer := 0, fetchPending := false }

/-- The machine right after `power()` with the blank cartridge inserted (10_state.md R121, 70_reset_and_hazards.md R1100;
log 1). PC is the reset vector read from blank PRG ROM. -/
def State.reset : State where
  cpu := { a := 0, x := 0, y := 0, s := 0xFD, pc := 0, n := false, v := false, d := false, i := true, z := false,
           c := false, halted := false, fault := none }
  pending := { reset := false, nmi := false, irqApu := false, irqDmc := false, irqMapper := false }
  ram := []
  oamDma := none
  strobe := false
  present := true
  cart := blankCartridge
  mapper := { chip := .nrom, prgMap := [0, 1, 0, 1], chrMap := [0, 1, 2, 3, 4, 5, 6, 7], prgRamMap := 0,
              prgRamOn := true, prgRamWE := true, mirroring := .horizontal }
  prgRam := []
  chrRam := []
  ppu := powerPpu defaultParams
  apu := powerApu
  palPhase := 0
  cycles := 0
  regionOverride := none
  params := defaultParams
  draws := { openBus := 0, input := 0, dmcStall := 0 }

end Sys2Proof.Machine
end

