-- ==== Sys2Proof/Machine/Memory.lean ====
section
/-! DEFINITION. Sparse storage in one canonical form: indexes strictly rising, no entry equal to 0, which is what an
unlisted index reads as. Every memory of the machine reads as 0 where nothing was written: RAM (20_memory.md R206),
cartridge RAM (21_cartridge_mappers.md R315, D60), the bytes of a ROM image that are 0, and the PPU's memories over the
power-up contents they start from (61_ppu.md R970, log 5). -/

namespace Sys2Proof.Machine

/-- The value listed for an index. -/
def sparseLookup {α : Type} : List (Nat × α) → Nat → Option α
  | [], _ => none
  | (k, v) :: m, a => if a = k then some v else sparseLookup m a

/-- List a value for an index, in its place, replacing what is listed there. -/
def sparseInsert {α : Type} : List (Nat × α) → Nat → α → List (Nat × α)
  | [], a, v => [(a, v)]
  | (k, u) :: m, a, v =>
    if a < k then (a, v) :: (k, u) :: m
    else if a = k then (a, v) :: m
    else (k, u) :: sparseInsert m a v

/-- Unlist an index. -/
def sparseErase {α : Type} : List (Nat × α) → Nat → List (Nat × α)
  | [], _ => []
  | (k, u) :: m, a => if a = k then sparseErase m a else (k, u) :: sparseErase m a

/-- The value at an index; 0 where nothing is listed. -/
def sparseRead {w : Nat} (m : Sparse w) (a : Nat) : BitVec w := (sparseLookup m a).getD 0

/-- Store a value at an index, keeping the canonical form. -/
def sparseWrite {w : Nat} (m : Sparse w) (a : Nat) (v : BitVec w) : Sparse w :=
  if v = 0 then sparseErase m a else sparseInsert m a v

/-- The indexes are strictly rising, from `lo` on and below `hi`. -/
def risingWithin {α : Type} (hi : Nat) : Nat → List (Nat × α) → Bool
  | _, [] => true
  | lo, (k, _) :: m => decide (lo ≤ k) && decide (k < hi) && risingWithin hi (k + 1) m

/-- The canonical form of a memory of `size` cells. -/
def sparseWf {w : Nat} (size : Nat) (m : Sparse w) : Bool :=
  risingWithin size 0 m && m.all (fun e => decide (e.2 ≠ 0))

/-- The cells `lo` .. `lo + n − 1` set to 0. -/
def sparseClear {w : Nat} : Nat → Nat → Sparse w → Sparse w
  | 0, _, m => m
  | n + 1, lo, m => sparseClear n (lo + 1) (sparseErase m lo)

/-- Consecutive values from index `lo` on, in sparse form. -/
def sparseOfList {w : Nat} : Nat → List (BitVec w) → Sparse w
  | _, [] => []
  | lo, v :: vs => if v = 0 then sparseOfList (lo + 1) vs else (lo, v) :: sparseOfList (lo + 1) vs

/-- The values at `lo` .. `lo + n − 1`. -/
def sparseSlice {w : Nat} : Nat → Nat → Sparse w → List (BitVec w)
  | 0, _, _ => []
  | n + 1, lo, m => sparseRead m lo :: sparseSlice n (lo + 1) m

/-- The size of the nametable memory: 2 KiB, or 4 KiB with four-screen mirroring (D27). -/
def ntramSize (c : Cartridge) : Nat := if c.mirroring = .fourScreen then 0x1000 else 0x800

/-- Every memory of the machine is in canonical form and inside its size, the framebuffer included. -/
def State.memoryWf (s : State) : Bool :=
  sparseWf 0x800 s.ram && sparseWf s.cart.prgRamSize s.prgRam && sparseWf s.cart.chrRamSize s.chrRam
    && sparseWf 256 s.ppu.oam && sparseWf 32 s.ppu.palette && sparseWf 0x1000 s.ppu.ntram
    && risingWithin 61440 0 s.ppu.frame

end Sys2Proof.Machine
end

