-- ==== Sys2Proof/Machine/Mapper.lean ====
section
/-! DEFINITION. Bank masks and windows (21_cartridge_mappers.md R320–R326) and the nine mapper machines (R330–R369). -/

namespace Sys2Proof.Machine

/-! ## Banking primitives -/

/-- R320, D58: the AND mask of a bank number for a mapping of `unit` bytes into a memory of `size` bytes. -/
def bankMask (size unit : Nat) : Nat := if unit ≤ size then size / unit - 1 else 0

/-- R321: the small bank shown in window i of a mapping of `k` windows of `win` bytes, for the requested bank b. -/
def windowBank (size win k b i : Nat) : Nat :=
  ((b &&& bankMask size (k * win)) * k + i) &&& bankMask size win

/-- Set windows w .. w + k − 1 of a map to a requested bank (R321). -/
def setWindows (size win k b w : Nat) (m : List Nat) : List Nat :=
  (List.range k).foldl (fun m i => m.set (w + i) (windowBank size win k b i)) m

/-- The CHR memory's size: CHR ROM where present, else CHR RAM (R321). -/
def chrSize (c : Cartridge) : Nat :=
  match c.chrRom with
  | some r => r.size
  | none => c.chrRamSize

/-- Map a bank of k · 8 KiB of PRG ROM at window w. -/
def mapPrg (c : Cartridge) (k b w : Nat) (m : Mapper) : Mapper :=
  { m with prgMap := setWindows c.prgRom.size 0x2000 k b w m.prgMap }

/-- Map a bank of k · 1 KiB of CHR at window u. -/
def mapChr (c : Cartridge) (k b u : Nat) (m : Mapper) : Mapper :=
  { m with chrMap := setWindows (chrSize c) 0x400 k b u m.chrMap }

/-- The number of the last 16 KiB PRG bank. -/
def lastPrg16 (c : Cartridge) : Nat := c.prgRom.size / 0x4000 - 1

/-- R326: the physical 1 KiB nametable page of logical nametable n. -/
def nametablePage (mi : Mirroring) (n : Nat) : Nat :=
  match mi with
  | .horizontal => n / 2
  | .vertical => n % 2
  | .single0 => 0
  | .single1 => 1
  | .fourScreen => n

/-! ## MMC1 (R340–R349) -/

/-- R342. -/
def mmc1Mirroring (r : Mmc1) : Mirroring :=
  match (r.control.extractLsb' 0 2).toNat with
  | 0 => .single0
  | 1 => .single1
  | 2 => .vertical
  | _ => .horizontal

/-- R343. -/
def mmc1Prg (c : Cartridge) (r : Mmc1) (m : Mapper) : Mapper :=
  let bank := (r.prg.extractLsb' 0 4).toNat
  match (r.control.extractLsb' 2 2).toNat with
  | 2 => mapPrg c 2 bank 2 (mapPrg c 2 0 0 m)
  | 3 => mapPrg c 2 (lastPrg16 c) 2 (mapPrg c 2 bank 0 m)
  | _ => mapPrg c 4 (r.prg.extractLsb' 1 3).toNat 0 m

/-- R344. -/
def mmc1Chr (c : Cartridge) (r : Mmc1) (m : Mapper) : Mapper :=
  if r.control.getLsbD 4 then mapChr c 4 r.chr1.toNat 4 (mapChr c 4 r.chr0.toNat 0 m)
  else mapChr c 8 (r.chr0.extractLsb' 1 4).toNat 0 m

/-- R348: on an SNROM board the last written CHR register's bit 4 disables PRG RAM and bits 3:2 select its bank. -/
def mmc1PrgRam (c : Cartridge) (r : Mmc1) (m : Mapper) : Mapper :=
  if r.snrom then
    let ch := if r.lastChr then r.chr1 else r.chr0
    { m with prgRamOn := !ch.getLsbD 4, prgRamWE := !ch.getLsbD 4,
             prgRamMap := (ch.extractLsb' 2 2).toNat &&& bankMask c.prgRamSize 0x2000 }
  else m

/-- R345: the banking the registers give. -/
def mmc1Apply (c : Cartridge) (r : Mmc1) (m : Mapper) : Mapper :=
  mmc1PrgRam c r (mmc1Chr c r (mmc1Prg c r { m with chip := .mmc1 r, mirroring := mmc1Mirroring r }))

/-- R341: the register a full shift value goes to, by address bits 14:13. -/
def mmc1Load (r : Mmc1) (a : Word) (v : BitVec 5) : Mmc1 :=
  match (a.extractLsb' 13 2).toNat with
  | 0 => { r with control := v }
  | 1 => { r with chr0 := v, lastChr := false }
  | 2 => { r with chr1 := v, lastChr := true }
  | _ => { r with prg := v }

/-- R341: a write to 0x8000–0xFFFF. -/
def mmc1Write (c : Cartridge) (r : Mmc1) (m : Mapper) (a : Word) (v : Byte) : Mapper :=
  if v.getLsbD 7 then
    mmc1Apply c { r with shift := 0, writesCount := 0, control := r.control ||| 0x0C } m
  else
    let sh : BitVec 5 := (r.shift >>> 1) ||| (if v.getLsbD 0 then 0x10 else 0)
    if r.writesCount + 1 = 5 then
      mmc1Apply c { mmc1Load r a sh with shift := 0, writesCount := 0 } m
    else { m with chip := .mmc1 { r with shift := sh, writesCount := r.writesCount + 1 } }

/-- R347. DESIGN CHOICE: its "CHR ROM or RAM size" is the CHR ROM's where there is CHR ROM, and else the CHR RAM's (log 42). -/
def isSnrom (c : Cartridge) : Bool :=
  (decide (c.prgRom.size = 0x20000) || decide (c.prgRom.size = 0x40000))
    && decide (c.prgRamSize = 0x2000) && decide (chrSize c = 0x2000)

/-- R349: the registers at reset. -/
def mmc1Reset (c : Cartridge) : Mmc1 where
  shift := 0
  writesCount := 0
  control := 0x0C
  chr0 := 0
  chr1 := 0
  prg := 0
  lastChr := false
  snrom := isSnrom c

/-! ## MMC3 (R360–R369) -/

/-- Register R i. -/
def mmc3R (r : Mmc3) (i : Nat) : Nat := (r.r.getD i 0).toNat

/-- R362. -/
def mmc3Prg (c : Cartridge) (r : Mmc3) (m : Mapper) : Mapper :=
  let l := c.prgRom.size / 0x2000
  let m := mapPrg c 1 (l - 1) 3 (mapPrg c 1 (mmc3R r 7) 1 m)
  if r.bankSelect.getLsbD 6 then mapPrg c 1 (mmc3R r 6) 2 (mapPrg c 1 (l - 2) 0 m)
  else mapPrg c 1 (l - 2) 2 (mapPrg c 1 (mmc3R r 6) 0 m)

/-- R363: the 2 KiB pairs of R0 and R1 at window `two`, R2–R5 at window `one`. -/
def mmc3Chr (c : Cartridge) (r : Mmc3) (m : Mapper) : Mapper :=
  let two := if r.bankSelect.getLsbD 7 then 4 else 0
  let one := if r.bankSelect.getLsbD 7 then 0 else 4
  let m := mapChr c 1 (mmc3R r 0 ||| 1) (two + 1) (mapChr c 1 (mmc3R r 0 &&& 0xFE) two m)
  let m := mapChr c 1 (mmc3R r 1 ||| 1) (two + 3) (mapChr c 1 (mmc3R r 1 &&& 0xFE) (two + 2) m)
  let m := mapChr c 1 (mmc3R r 3) (one + 1) (mapChr c 1 (mmc3R r 2) one m)
  mapChr c 1 (mmc3R r 5) (one + 3) (mapChr c 1 (mmc3R r 4) (one + 2) m)

/-- The banking the registers give. -/
def mmc3Apply (c : Cartridge) (r : Mmc3) (m : Mapper) : Mapper :=
  mmc3Chr c r (mmc3Prg c r { m with chip := .mmc3 r })

/-- R361: a write to 0x8000–0xFFFF, decoded by address bits 14:13 and 0. The IRQ bit is `mapperWriteIrq`. -/
def mmc3Write (c : Cartridge) (r : Mmc3) (m : Mapper) (a : Word) (v : Byte) : Mapper :=
  match (a.extractLsb' 13 2).toNat, a.getLsbD 0 with
  | 0, false => mmc3Apply c { r with bankSelect := v } m
  | 0, true => mmc3Apply c { r with r := r.r.set (r.bankSelect.extractLsb' 0 3).toNat v } m
  | 1, false =>
    if c.mirroring = .fourScreen then m
    else { m with mirroring := if v.getLsbD 0 then .horizontal else .vertical }
  | 1, true => { m with prgRamOn := v.getLsbD 7, prgRamWE := v.getLsbD 7 && !v.getLsbD 6 }
  | 2, false => { m with chip := .mmc3 { r with irqLatch := v } }
  | 2, true => { m with chip := .mmc3 { r with irqCounter := 0, irqReload := true } }
  | _, false => { m with chip := .mmc3 { r with irqEnabled := false } }
  | _, true => { m with chip := .mmc3 { r with irqEnabled := true } }

/-- R366: the registers after a tick. -/
def mmc3Tick (r : Mmc3) : Mmc3 :=
  if r.irqCounter = 0 ∨ r.irqReload = true then { r with irqCounter := r.irqLatch, irqReload := false }
  else { r with irqCounter := r.irqCounter - 1 }

/-- R369: the registers at reset. -/
def mmc3Reset : Mmc3 where
  bankSelect := 0
  r := [0, 0, 0, 0, 0, 0, 0, 0]
  irqLatch := 0
  irqCounter := 0
  irqReload := false
  irqEnabled := false

/-! ## All mappers -/

/-- R321: the banking state before a chip maps anything. -/
def freshMapper (c : Cartridge) (chip : Chip) : Mapper where
  chip := chip
  prgMap := [0, 0, 0, 0]
  chrMap := [0, 0, 0, 0, 0, 0, 0, 0]
  prgRamMap := 0
  prgRamOn := decide (0 < c.prgRamSize)
  prgRamWE := decide (0 < c.prgRamSize)
  mirroring := c.mirroring

/-- The chip's `reset()` (R315, R331, R349–R356, R369). -/
def resetMapper (c : Cartridge) : Mapper :=
  match c.mapperId with
  | .nrom => mapChr c 8 0 0 (mapPrg c 4 0 0 (freshMapper c .nrom))
  | .mmc1 => mmc1Apply c (mmc1Reset c) (freshMapper c .nrom)
  | .unrom => mapChr c 8 0 0 (mapPrg c 2 (lastPrg16 c) 2 (mapPrg c 2 0 0 (freshMapper c .unrom)))
  | .cnrom => mapChr c 8 0 0 (mapPrg c 4 0 0 (freshMapper c .cnrom))
  | .mmc3 => mmc3Apply c mmc3Reset (freshMapper c .nrom)
  | .aorom => mapChr c 8 0 0 (mapPrg c 4 0 0 { freshMapper c .aorom with mirroring := .single0 })
  | .colorDreams => mapChr c 8 0 0 (mapPrg c 4 0 0 (freshMapper c .colorDreams))
  | .bnrom => mapChr c 8 0 0 (mapPrg c 4 0 0 (freshMapper c .bnrom))
  | .nina001 => mapChr c 4 0 4 (mapChr c 4 0 0 (mapPrg c 4 0 0 (freshMapper c .nina001)))
  | .other _ => freshMapper c .nrom

/-- R324: a CPU write to 0x8000–0xFFFF reaches the chip's registers. -/
def mapperWrite (p : Params) (c : Cartridge) (m : Mapper) (a : Word) (v : Byte) : Mapper :=
  match m.chip with
  | .nrom => m
  | .mmc1 r => mmc1Write c r m a v
  | .unrom => mapPrg c 2 v.toNat 0 m
  | .cnrom => mapChr c 8 v.toNat 0 m
  | .mmc3 r => mmc3Write c r m a v
  | .aorom =>
    mapPrg c 4 (v.extractLsb' 0 3).toNat 0 { m with mirroring := if v.getLsbD 4 then .single1 else .single0 }
  | .colorDreams =>
    let m := mapChr c 8 (v.extractLsb' 4 4).toNat 0 (mapPrg c 4 (v.extractLsb' 0 2).toNat 0 m)
    match p.colorDreamsMirroring with
    | none => m
    | some b => { m with mirroring := if v.getLsbD b.val then .single1 else .single0 }
  | .bnrom => mapPrg c 4 v.toNat 0 m
  | .nina001 => m

/-- R361, R368: an MMC3 write to 0xE000 (address bits 14:13 = 3, bit 0 = 0) clears IRQ_MAPPER. -/
def mapperWriteIrq (m : Mapper) (a : Word) (p : Pending) : Pending :=
  match m.chip with
  | .mmc3 _ => if a.extractLsb' 13 2 = 3 ∧ a.getLsbD 0 = false then { p with irqMapper := false } else p
  | _ => p

/-- R355: NINA-001's registers in PRG RAM space. -/
def ninaWrite (c : Cartridge) (m : Mapper) (a : Word) (v : Byte) : Mapper :=
  match m.chip with
  | .nina001 =>
    if a = 0x7FFD then mapPrg c 4 (v.extractLsb' 0 1).toNat 0 m
    else if a = 0x7FFE then mapChr c 4 (v.extractLsb' 0 4).toNat 0 m
    else if a = 0x7FFF then mapChr c 4 (v.extractLsb' 0 4).toNat 4 m
    else m
  | _ => m

/-- R365, R366: the mapper after the PPU's tick; only MMC3 reacts. -/
def mapperTick (m : Mapper) : Mapper :=
  match m.chip with
  | .mmc3 r => { m with chip := .mmc3 (mmc3Tick r) }
  | _ => m

/-- R366: whether the PPU's tick sets IRQ_MAPPER. -/
def mapperTickIrq (m : Mapper) : Bool :=
  match m.chip with
  | .mmc3 r => decide ((mmc3Tick r).irqCounter = 0) && r.irqEnabled
  | _ => false

end Sys2Proof.Machine
end

