-- ==== Sys2Proof/Machine/PpuBus.lean ====
section
/-! DEFINITION. The PPU's memory (61_ppu.md R912, R914; 21_cartridge_mappers.md R325, R326), the scroll address arithmetic
(R942) and the CPU-visible registers 0x2000–0x2007 (R904–R911). -/

namespace Sys2Proof.Machine

/-- One open-bus draw (00_scope.md R11, D14). -/
def drawOpenBus (s : State) : Byte × State :=
  (Config.openBus s.draws.openBus, { s with draws := { s.draws with openBus := s.draws.openBus + 1 } })

/-! ## PPU memory -/

/-- The CHR offset a PPU address 0x0000–0x1FFF is translated to (21_cartridge_mappers.md R325). -/
def chrOffset (m : Mapper) (p : Nat) : Nat := m.chrMap.getD (p / 0x400) 0 * 0x400 + p % 0x400

/-- A CHR byte (R325); beyond the end of a CHR memory the spec states no value (log 7). -/
def chrRead (s : State) (p : Nat) : Byte :=
  let off := chrOffset s.mapper p
  if off < chrSize s.cart then
    match s.cart.chrRom with
    | some r => sparseRead r.bytes off
    | none => sparseRead s.chrRam off
  else Config.chrBeyondEnd off s.draws.openBus

/-- The nametable memory index of a PPU address 0x2000–0x3EFF (21_cartridge_mappers.md R326). -/
def ntIndex (m : Mapper) (p : Nat) : Nat := nametablePage m.mirroring (p / 0x400 % 4) * 0x400 + p % 0x400

/-- The palette index of a PPU address 0x3F00–0x3FFF (R914). -/
def paletteIndex (p : Nat) : Nat :=
  let i := p % 0x20
  if i = 0x10 ∨ i = 0x14 ∨ i = 0x18 ∨ i = 0x1C then i - 0x10 else i

/-- `PpuRead` (R912). -/
def ppuRead (s : State) (a : BitVec 14) : Byte :=
  let p := a.toNat
  if p < 0x2000 then chrRead s p
  else if p < 0x3F00 then sparseRead s.ppu.ntram (ntIndex s.mapper p)
  else (sparseRead s.ppu.palette (paletteIndex p)).setWidth 8

/-- `PpuWrite` (R912): CHR ROM is not written (D53), nor is anything beyond the end of CHR RAM (log 7). -/
def ppuWrite (s : State) (a : BitVec 14) (v : Byte) : State :=
  let p := a.toNat
  if p < 0x2000 then
    let off := chrOffset s.mapper p
    if s.cart.chrRom = none ∧ off < chrSize s.cart then { s with chrRam := sparseWrite s.chrRam off v } else s
  else if p < 0x3F00 then
    { s with ppu := { s.ppu with ntram := sparseWrite s.ppu.ntram (ntIndex s.mapper p) v } }
  else
    { s with ppu := { s.ppu with palette := sparseWrite s.ppu.palette (paletteIndex p) (v.setWidth 6) } }

/-! ## Scroll address (R903, R942) -/

/-- v[4:0]. -/
def coarseX (v : BitVec 15) : BitVec 5 := v.extractLsb' 0 5
/-- v[9:5]. -/
def coarseY (v : BitVec 15) : BitVec 5 := v.extractLsb' 5 5
/-- v[11:10]. -/
def ntSelect (v : BitVec 15) : BitVec 2 := v.extractLsb' 10 2
/-- v[14:12]. -/
def fineY (v : BitVec 15) : BitVec 3 := v.extractLsb' 12 3

/-- A scroll address from its fields. -/
def scrollOf (fy : BitVec 3) (nt : BitVec 2) (cy cx : BitVec 5) : BitVec 15 := fy ++ nt ++ cy ++ cx

/-- `CoarseXInc` (R942). -/
def coarseXInc (v : BitVec 15) : BitVec 15 :=
  if coarseX v = 31 then scrollOf (fineY v) (ntSelect v ^^^ 1) (coarseY v) 0
  else scrollOf (fineY v) (ntSelect v) (coarseY v) (coarseX v + 1)

/-- `YInc` (R942). -/
def yInc (v : BitVec 15) : BitVec 15 :=
  if fineY v ≠ 7 then scrollOf (fineY v + 1) (ntSelect v) (coarseY v) (coarseX v)
  else if coarseY v = 29 then scrollOf 0 (ntSelect v ^^^ 2) 0 (coarseX v)
  else if coarseY v = 31 then scrollOf 0 (ntSelect v) 0 (coarseX v)
  else scrollOf 0 (ntSelect v) (coarseY v + 1) (coarseX v)

/-- R943: the horizontal bits of t into v. -/
def copyHorizontal (v t : BitVec 15) : BitVec 15 :=
  scrollOf (fineY v) ((ntSelect v &&& 2) ||| (ntSelect t &&& 1)) (coarseY v) (coarseX t)

/-- R943: the vertical bits of t into v. -/
def copyVertical (v t : BitVec 15) : BitVec 15 :=
  scrollOf (fineY t) ((ntSelect v &&& 1) ||| (ntSelect t &&& 2)) (coarseY t) (coarseX v)

/-! ## Registers -/

/-- `renderingOn` (R913). -/
def renderingOn (p : Ppu) : Bool := p.mask.getLsbD 3 || p.mask.getLsbD 4

/-- PPUCTRL write (R905, D42). -/
def ppuCtrlWrite (s : State) (v : Byte) : State :=
  { s with
    ppu := { s.ppu with
      ctrl := v
      t := scrollOf (fineY s.ppu.t) (v.extractLsb' 0 2) (coarseY s.ppu.t) (coarseX s.ppu.t) }
    pending := { s.pending with
      nmi := s.pending.nmi || (v.getLsbD 7 && !s.ppu.ctrl.getLsbD 7 && s.ppu.vblank) } }

/-- PPUSTATUS read (R906). -/
def ppuStatusRead (s : State) : Byte × State :=
  let r := drawOpenBus s
  let b : Byte := BitVec.ofBool s.ppu.vblank ++ BitVec.ofBool s.ppu.spr0Hit ++ BitVec.ofBool s.ppu.sprOverflow
    ++ r.1.extractLsb' 0 5
  (b, { r.2 with ppu := { s.ppu with vblank := false, w := false } })

/-- OAMDATA write, also the path of OAM DMA (R908, D44). -/
def oamDataWrite (s : State) (v : Byte) : State :=
  { s with ppu := { s.ppu with
      oam := sparseWrite s.ppu.oam s.ppu.oamAddr.toNat v
      oamAddr := s.ppu.oamAddr + 1 } }

/-- Byte k of OAM as it is read: bits 4:2 of an attribute byte are not stored and read as 0 (R908, log 26). -/
def oamByte (oam : Mem) (k : Nat) : Byte :=
  let b := sparseRead oam k
  if k % 4 = 2 then b &&& 0xE3 else b

/-- OAMDATA read (R908). -/
def oamDataRead (p : Ppu) : Byte := oamByte p.oam p.oamAddr.toNat

/-- PPUSCROLL write (R909). -/
def ppuScrollWrite (p : Ppu) (v : Byte) : Ppu :=
  if p.w then
    { p with t := scrollOf (v.extractLsb' 0 3) (ntSelect p.t) (v.extractLsb' 3 5) (coarseX p.t), w := false }
  else
    { p with t := scrollOf (fineY p.t) (ntSelect p.t) (coarseY p.t) (v.extractLsb' 3 5),
             x := v.extractLsb' 0 3, w := true }

/-- PPUADDR write (R910). -/
def ppuAddrWrite (p : Ppu) (v : Byte) : Ppu :=
  if p.w then
    let t : BitVec 15 := p.t.extractLsb' 8 7 ++ v
    { p with t := t, v := t, w := false }
  else { p with t := (0 : BitVec 1) ++ v.extractLsb' 0 6 ++ p.t.extractLsb' 0 8, w := true }

/-- The scanline is −1 or visible (R911). -/
def onFetchLine (p : Ppu) : Bool := decide (-1 ≤ p.scanline) && decide (p.scanline ≤ 239)

/-- v after a PPUDATA access (R911, D43). -/
def ppuDataIncrement (p : Ppu) : BitVec 15 :=
  if renderingOn p && onFetchLine p then yInc (coarseXInc p.v)
  else p.v + (if p.ctrl.getLsbD 2 then 32 else 1)

/-- PPUDATA read (R911, D52): below the palette the buffered byte; in it the palette entry under two open-bus bits. -/
def ppuDataRead (s : State) : Byte × State :=
  let a : BitVec 14 := s.ppu.v.setWidth 14
  if a < 0x3F00 then
    (s.ppu.readBuf, { s with ppu := { s.ppu with readBuf := ppuRead s a, v := ppuDataIncrement s.ppu } })
  else
    let r := drawOpenBus s
    ((r.1 &&& 0xC0) ||| ppuRead s a,
     { r.2 with ppu := { s.ppu with readBuf := ppuRead s (a - 0x1000), v := ppuDataIncrement s.ppu } })

/-- PPUDATA write (R911). -/
def ppuDataWrite (s : State) (v : Byte) : State :=
  let t := ppuWrite s (s.ppu.v.setWidth 14) v
  { t with ppu := { t.ppu with v := ppuDataIncrement s.ppu } }

/-- `PpuRegRead` of 0x2000 + r (R904): write-only registers give the open-bus draw (D15). -/
def ppuRegRead (s : State) (r : Nat) : Byte × State :=
  match r with
  | 2 => ppuStatusRead s
  | 4 => (oamDataRead s.ppu, s)
  | 7 => ppuDataRead s
  | _ => drawOpenBus s

/-- `PpuRegWrite` of 0x2000 + r (R904): a write to PPUSTATUS has no effect. -/
def ppuRegWrite (s : State) (r : Nat) (v : Byte) : State :=
  match r with
  | 0 => ppuCtrlWrite s v
  | 1 => { s with ppu := { s.ppu with mask := v } }
  | 3 => { s with ppu := { s.ppu with oamAddr := v } }
  | 4 => oamDataWrite s v
  | 5 => { s with ppu := ppuScrollWrite s.ppu v }
  | 6 => { s with ppu := ppuAddrWrite s.ppu v }
  | 7 => ppuDataWrite s v
  | _ => s

end Sys2Proof.Machine
end

