-- ==== Sys2Proof/Machine/PpuDot.lean ====
section
/-! DEFINITION. One PPU clock (61_ppu.md R920–R960): the dot's events by (scanline, dot), then the beam's advance. In a
dot the background shifters shift and reload first, then the pixel is output, then the fetches and the scroll
increments happen, then the sprite work (log 9). -/

namespace Sys2Proof.Machine

/-- Where a scanline lies (R920). -/
inductive Line where
  | preRender
  | visible (y : Nat)
  | idle (n : Nat)
deriving DecidableEq, Repr

/-- R920: −1 is the pre-render line, 0–239 are visible, 240 and above fetch nothing. -/
def lineOf : Int → Line
  | .negSucc _ => .preRender
  | .ofNat n => if n < 240 then .visible n else .idle n

/-- The effective region: "explicit override > cartridge-declared region > NTSC default" (62_apu.md R1050). -/
def State.region (s : State) : Region :=
  match s.regionOverride with
  | some r => r
  | none => if s.present then s.cart.region else .ntsc

/-- The last scanline (R920). -/
def lastLine : Region → Int
  | .ntsc => 260
  | .pal => 310

/-! ## Background (R940, R941) -/

/-- The dots of the background fetches (R940). -/
def fetchDot (d : Nat) : Bool := (decide (1 ≤ d) && decide (d ≤ 256)) || (decide (321 ≤ d) && decide (d ≤ 336))

/-- The dots at which the shifters shift (R941). -/
def shiftDot (d : Nat) : Bool := (decide (2 ≤ d) && decide (d ≤ 257)) || (decide (322 ≤ d) && decide (d ≤ 337))

/-- The dots at which the shifters' low bytes are reloaded (R941): 9, 17, .., 257 and 329, 337. -/
def reloadDot (d : Nat) : Bool :=
  decide (d % 8 = 1) && ((decide (9 ≤ d) && decide (d ≤ 257)) || decide (d = 329) || decide (d = 337))

/-- R941: the byte that fills an attribute shifter. -/
def spread (b : Bool) : Byte := if b then 0xFF else 0

/-- R941: shift. -/
def bgShift (b : Background) : Background :=
  { b with bgLo := b.bgLo <<< 1, bgHi := b.bgHi <<< 1, atLo := b.atLo <<< 1, atHi := b.atHi <<< 1 }

/-- R941: reload the low bytes. -/
def bgReload (b : Background) : Background :=
  { b with
    bgLo := b.bgLo.extractLsb' 8 8 ++ b.patLo
    bgHi := b.bgHi.extractLsb' 8 8 ++ b.patHi
    atLo := b.atLo.extractLsb' 8 8 ++ spread (b.atBits.getLsbD 0)
    atHi := b.atHi.extractLsb' 8 8 ++ spread (b.atBits.getLsbD 1) }

/-- The shifters' work of a dot: shift, then reload. -/
def bgClock (d : Nat) (b : Background) : Background :=
  let b := if shiftDot d then bgShift b else b
  if reloadDot d then bgReload b else b

/-- R940: the pattern address of the background tile row. -/
def bgPatternAddr (p : Ppu) : BitVec 14 :=
  (if p.ctrl.getLsbD 4 then 0x1000 else 0) + (p.bg.ntByte.setWidth 14 <<< 4) + (fineY p.v).setWidth 14

/-- R940: the attribute byte's address. -/
def attributeAddr (v : BitVec 15) : BitVec 14 :=
  let v := v.setWidth 14
  0x23C0 ||| (v &&& 0x0C00) ||| ((v >>> 4) &&& 0x38) ||| ((v >>> 2) &&& 0x07)

/-- R940: the fetches of a dot. The fetches at dots 337 and 339 leave nothing behind. -/
def bgFetch (s : State) (d : Nat) (p : Ppu) : Background :=
  match d % 8 with
  | 1 => { p.bg with ntByte := ppuRead s (0x2000 ||| (p.v.setWidth 14 &&& 0x0FFF)) }
  | 3 =>
    let at_ := ppuRead s (attributeAddr p.v)
    let sh := ((p.v >>> 4) &&& 4) ||| (p.v &&& 2)
    { p.bg with atBits := (at_ >>> sh.toNat).setWidth 2 }
  | 5 => { p.bg with patLo := ppuRead s (bgPatternAddr p) }
  | 7 => { p.bg with patHi := ppuRead s (bgPatternAddr p + 8) }
  | _ => p.bg

/-- R940, R942, R943: v after a dot of a fetching line. -/
def scrollClock (pre : Bool) (d : Nat) (v t : BitVec 15) : BitVec 15 :=
  let v := if fetchDot d && decide (d % 8 = 0) then coarseXInc v else v
  let v := if d = 256 then yInc v else v
  let v := if d = 257 then copyHorizontal v t else v
  if pre && decide (280 ≤ d) && decide (d ≤ 304) then copyVertical v t else v

/-- Fetches and scroll of a dot with rendering on. -/
def fetchClock (s : State) (pre : Bool) (d : Nat) (p : Ppu) : Ppu :=
  { p with bg := if fetchDot d then bgFetch s d p else p.bg, v := scrollClock pre d p.v p.t }

/-! ## Sprites (R950–R954) -/

/-- Sprite height (R950). -/
def spriteHeight (p : Ppu) : Nat := if p.ctrl.getLsbD 5 then 16 else 8

/-- R951: the row of line y in a sprite whose Y byte is b lies in 0 .. h − 1. -/
def rowInRange (y h : Nat) (b : Byte) : Bool := decide (b.toNat ≤ y) && decide (y - b.toNat < h)

/-- The output unit of OAM entry n, its shift pair still empty. -/
def spriteEntry (oam : Mem) (n : Nat) : SpriteUnit where
  y := sparseRead oam (4 * n)
  tile := sparseRead oam (4 * n + 1)
  attr := sparseRead oam (4 * n + 2)
  x := sparseRead oam (4 * n + 3)
  lo := 0
  hi := 0

/-- R951: the in-range entries among the `k` entries from n on, in OAM order. -/
def inRangeFrom (oam : Mem) (y h : Nat) : Nat → Nat → List Nat
  | 0, _ => []
  | k + 1, n =>
    if rowInRange y h (sparseRead oam (4 * n)) then n :: inRangeFrom oam y h k (n + 1)
    else inRangeFrom oam y h k (n + 1)

/-- R952: the buggy evaluator's search over the `k` entries from n on, with byte offset m. -/
def buggyOverflow (oam : Mem) (y h : Nat) : Nat → Nat → Nat → Bool
  | 0, _, _ => false
  | k + 1, n, m =>
    if rowInRange y h (oamByte oam (4 * n + m)) then true
    else buggyOverflow oam y h k (n + 1) ((m + 1) % 4)

/-- R951, R952: the overflow outcome, given the in-range entries. The buggy search starts after the eighth. -/
def spriteOverflow (bug : Bool) (oam : Mem) (y h : Nat) (found : List Nat) : Bool :=
  if bug then
    match found[7]? with
    | some n0 => buggyOverflow oam y h (63 - n0) (n0 + 1) 0
    | none => false
  else decide (8 < found.length)

/-- R951: evaluation at dot 257 of visible line y for the next line. -/
def evaluateSprites (bug : Bool) (y : Nat) (p : Ppu) : Ppu :=
  let h := spriteHeight p
  let found := inRangeFrom p.oam y h 64 0
  { p with
    spr := (found.take 8).map (spriteEntry p.oam)
    spr0OnLine := decide (found[0]? = some 0)
    sprOverflow := p.sprOverflow || spriteOverflow bug p.oam y h found }

/-- No unit holds a sprite: the pre-render line, and a line on which nothing is evaluated (R951, log 8). -/
def clearSprites (p : Ppu) : Ppu := { p with spr := [], spr0OnLine := false }

/-- Bits of a byte in reverse order (R953, horizontal flip). -/
def reverseByte (b : Byte) : Byte :=
  BitVec.ofBool (b.getLsbD 0) ++ BitVec.ofBool (b.getLsbD 1) ++ BitVec.ofBool (b.getLsbD 2)
    ++ BitVec.ofBool (b.getLsbD 3) ++ BitVec.ofBool (b.getLsbD 4) ++ BitVec.ofBool (b.getLsbD 5)
    ++ BitVec.ofBool (b.getLsbD 6) ++ BitVec.ofBool (b.getLsbD 7)

/-- R953: the pattern address of a sprite's row on line y. -/
def spritePatternAddr (p : Ppu) (y : Nat) (u : SpriteUnit) : BitVec 14 :=
  let row : Byte := BitVec.ofNat 8 y - u.y
  let row : Byte := if u.attr.getLsbD 7 then BitVec.ofNat 8 (spriteHeight p) - 1 - row else row
  if p.ctrl.getLsbD 5 then
    let tile : Byte := (u.tile &&& 0xFE) + (if 8 ≤ row.toNat then 1 else 0)
    (if u.tile.getLsbD 0 then 0x1000 else 0) + (tile.setWidth 14 <<< 4) + (row &&& 7).setWidth 14
  else (if p.ctrl.getLsbD 3 then 0x1000 else 0) + (u.tile.setWidth 14 <<< 4) + row.setWidth 14

/-- A fetched pattern byte as its shifter takes it (R953). -/
def spriteByte (u : SpriteUnit) (b : Byte) : Byte := if u.attr.getLsbD 6 then reverseByte b else b

/-- R953: slot j's fetches, at the fifth and seventh of its eight dots from 257 + 8j on (log 8). -/
def spriteFetch (s : State) (y d : Nat) (p : Ppu) : Ppu :=
  let j := (d - 257) / 8
  match p.spr[j]? with
  | none => p
  | some u =>
    match (d - 257) % 8 with
    | 4 => { p with spr := p.spr.set j { u with lo := spriteByte u (ppuRead s (spritePatternAddr p y u)) } }
    | 6 => { p with spr := p.spr.set j { u with hi := spriteByte u (ppuRead s (spritePatternAddr p y u + 8)) } }
    | _ => p

/-- The dots of the sprite fetches (R953, R954). -/
def spriteDot (d : Nat) : Bool := decide (257 ≤ d) && decide (d ≤ 320)

/-! ## Pixel output (R955, R960) -/

/-- A sprite unit's 2-bit pixel: its shifters' top bits once its counter is 0. -/
def unitPixel (u : SpriteUnit) : BitVec 2 :=
  if u.x = 0 then BitVec.ofBool (u.hi.getLsbD 7) ++ BitVec.ofBool (u.lo.getLsbD 7) else 0

/-- A unit after a pixel dot (R960). -/
def unitClock (u : SpriteUnit) : SpriteUnit :=
  if u.x = 0 then { u with lo := u.lo <<< 1, hi := u.hi <<< 1 } else { u with x := u.x - 1 }

/-- The first slot whose pixel is not 0 (R960). -/
def frontSprite : List SpriteUnit → Option SpriteUnit
  | [] => none
  | u :: us => if unitPixel u = 0 then frontSprite us else some u

/-- The background pixel and its palette from the shifters (R941). -/
def bgPixel (p : Ppu) : BitVec 2 × BitVec 2 :=
  let k := 15 - p.x.toNat
  (BitVec.ofBool (p.bg.bgHi.getLsbD k) ++ BitVec.ofBool (p.bg.bgLo.getLsbD k),
   BitVec.ofBool (p.bg.atHi.getLsbD k) ++ BitVec.ofBool (p.bg.atLo.getLsbD k))

/-- The background pixel of column x under PPUMASK (R960). -/
def shownBg (p : Ppu) (x : Nat) : BitVec 2 :=
  if p.mask.getLsbD 3 && (decide (8 ≤ x) || p.mask.getLsbD 1) then (bgPixel p).1 else 0

/-- The sprite unit of column x under PPUMASK (R960). -/
def shownSprite (p : Ppu) (x : Nat) : Option SpriteUnit :=
  if p.mask.getLsbD 4 && (decide (8 ≤ x) || p.mask.getLsbD 2) then frontSprite p.spr else none

/-- R960: a slot's `sp.palette`, 4 + attr[1:0], which the pixel's address multiplies by 4 and adds to 0x3F10. UNVERIFIED: that the
chip's sprites show these entries, which R914 calls background palettes (log 40). -/
def spritePalette (u : SpriteUnit) : Nat := 4 + (u.attr.extractLsb' 0 2).toNat

/-- The palette address of a pixel (R960). -/
def pixelAddr (p : Ppu) (x : Nat) : Nat :=
  let bg := shownBg p x
  let bgAddr := 0x3F00 + 4 * (bgPixel p).2.toNat + bg.toNat
  match shownSprite p x with
  | none => if bg = 0 then 0x3F00 else bgAddr
  | some u =>
    let spAddr := 0x3F10 + 4 * spritePalette u + (unitPixel u).toNat
    if bg = 0 then spAddr else if u.attr.getLsbD 5 then bgAddr else spAddr

/-- The colour index of a pixel (R960, R913 GREY). -/
def pixelColour (p : Ppu) (x : Nat) : BitVec 6 :=
  sparseRead p.palette (paletteIndex (pixelAddr p x)) &&& (if p.mask.getLsbD 0 then 0x30 else 0x3F)

/-- Sprite-0 hit at column x (R955). -/
def spriteZeroHit (p : Ppu) (x : Nat) : Bool :=
  p.spr0OnLine && (match p.spr with | [] => false | u :: _ => decide (unitPixel u ≠ 0))
    && decide ((bgPixel p).1 ≠ 0) && p.mask.getLsbD 3 && p.mask.getLsbD 4 && decide (x ≠ 255)
    && !(decide (x < 8) && (!p.mask.getLsbD 1 || !p.mask.getLsbD 2))

/-- R960: pixel (x, y) is output and the units' counters step. -/
def outputPixel (y x : Nat) (p : Ppu) : Ppu :=
  { p with
    frame := sparseInsert p.frame (y * 256 + x) (pixelColour p x)
    spr0Hit := p.spr0Hit || spriteZeroHit p x
    spr := p.spr.map unitClock }

/-! ## The dot -/

/-- The background shifters' part of a dot of a fetching line. -/
def bgStage (d : Nat) (p : Ppu) : Ppu := if renderingOn p then { p with bg := bgClock d p.bg } else p

/-- The pixel output of a visible dot. -/
def pixelStage (y d : Nat) (p : Ppu) : Ppu := if 1 ≤ d ∧ d ≤ 256 then outputPixel y (d - 1) p else p

/-- The fetches and the scroll of a dot of a fetching line; `pre` on the pre-render line. -/
def fetchStage (s : State) (pre : Bool) (d : Nat) (p : Ppu) : Ppu := if renderingOn p then fetchClock s pre d p else p

/-- R951: at dot 257 of visible line y the next line's units are evaluated, or cleared with rendering off (log 8). -/
def evaluateStage (bug : Bool) (y d : Nat) (p : Ppu) : Ppu :=
  if d = 257 then (if renderingOn p then evaluateSprites bug y p else clearSprites p) else p

/-- R953, R954: the sprite fetches of a dot of visible line y, and OAMADDR. -/
def spriteStage (s : State) (y d : Nat) (p : Ppu) : Ppu :=
  if renderingOn p && spriteDot d then { spriteFetch s y d p with oamAddr := 0 } else p

/-- R922, visible line y. -/
def visibleDot (s : State) (y d : Nat) (p : Ppu) : Ppu :=
  spriteStage s y d (evaluateStage s.params.spriteOverflowBug y d (fetchStage s false d (pixelStage y d (bgStage d p))))

/-- R937: the flags cleared at dot 1 of the pre-render line. -/
def clearFlagsStage (d : Nat) (p : Ppu) : Ppu :=
  if d = 1 then { p with vblank := false, spr0Hit := false, sprOverflow := false } else p

/-- The sprite work of the pre-render line: no unit holds a sprite, and OAMADDR (R951, R954). -/
def preRenderSprites (d : Nat) (p : Ppu) : Ppu :=
  let p := if d = 257 then clearSprites p else p
  if renderingOn p && spriteDot d then { p with oamAddr := 0 } else p

/-- R922, pre-render line. -/
def preRenderDot (s : State) (d : Nat) (p : Ppu) : Ppu :=
  preRenderSprites d (fetchStage s true d (bgStage d (clearFlagsStage d p)))

/-- R935: entering vblank, at scanline 241 dot 1. -/
def vblankStart (p : Ppu) : Bool := decide (p.scanline = 241) && decide (p.dot = 1)

/-- The events of the current dot (R922). -/
def dotEvents (s : State) : Ppu :=
  match lineOf s.ppu.scanline with
  | .preRender => preRenderDot s s.ppu.dot s.ppu
  | .visible y => visibleDot s y s.ppu.dot s.ppu
  | .idle _ => if vblankStart s.ppu then { s.ppu with vblank := true, frameAvailable := true } else s.ppu

/-- The dot after the current one: 341 is reached from 340, or from 339 where the odd-frame skip applies (R921). -/
def nextDot (r : Region) (p : Ppu) : Nat :=
  if r = .ntsc ∧ renderingOn p = true ∧ p.oddFrame = true ∧ p.scanline = -1 ∧ p.dot + 1 = 340 then 341 else p.dot + 1

/-- The beam's advance (R921). -/
def beamAdvance (r : Region) (p : Ppu) : Ppu :=
  if nextDot r p = 341 then
    if lastLine r < p.scanline + 1 then { p with dot := 0, scanline := -1, oddFrame := !p.oddFrame }
    else { p with dot := 0, scanline := p.scanline + 1 }
  else { p with dot := nextDot r p }

/-- R945: the mapper is ticked at dot 260 of a visible line with rendering on. -/
def ticksMapper (p : Ppu) : Bool :=
  decide (p.dot = 260) && renderingOn p && decide (0 ≤ p.scanline) && decide (p.scanline ≤ 239)

/-- The pending bits after a dot: NMI at vblank start (R936), IRQ_MAPPER from the mapper's tick. -/
def dotPending (s : State) : Pending :=
  { s.pending with
    nmi := s.pending.nmi || (vblankStart s.ppu && s.ppu.ctrl.getLsbD 7)
    irqMapper := s.pending.irqMapper || (ticksMapper s.ppu && mapperTickIrq s.mapper) }

/-- One PPU clock. -/
def ppuDot (s : State) : State :=
  { s with
    ppu := beamAdvance s.region (dotEvents s)
    pending := dotPending s
    mapper := if ticksMapper s.ppu then mapperTick s.mapper else s.mapper }

/-- n PPU clocks. -/
def ppuDots : Nat → State → State
  | 0, s => s
  | n + 1, s => ppuDots n (ppuDot s)

/-- The framebuffer pixel at index i: its base-palette colour, or 0 where nothing has been written since power (R901,
R970; log 6). -/
def framePixel (s : State) (i : Nat) : BitVec 32 :=
  match sparseLookup s.ppu.frame i with
  | some c => Config.basePalette c
  | none => 0

end Sys2Proof.Machine
end

