-- ==== Sys2Proof/Machine/Apu.lean ====
section
/-! DEFINITION. The APU (62_apu.md): constant tables (R1033, R1034, R1050, R1051), the frame sequencer (R1020–R1022), the channel
units (R1030–R1035), the DMC (R1040–R1044), the registers (R1001–R1008), and one CPU cycle of all of them. In a cycle
the sequencer goes first, then the channel timers (log 13). -/

namespace Sys2Proof.Machine

/-! ## Tables -/

/-- LengthTable (R1051). -/
def lengthTable : List Byte :=
  [10, 254, 20, 2, 40, 4, 80, 6, 160, 8, 60, 10, 14, 12, 26, 14,
   12, 16, 24, 18, 48, 20, 96, 22, 192, 24, 72, 26, 16, 28, 32, 30]

/-- The length a 5-bit code loads (R1030). -/
def lengthOf (code : BitVec 5) : Byte := lengthTable.getD code.toNat 0

/-- NoisePeriod (R1050). -/
def noisePeriod (r : Region) (i : BitVec 4) : Nat :=
  match r with
  | .ntsc => [4, 8, 16, 32, 64, 96, 128, 160, 202, 254, 380, 508, 762, 1016, 2034, 4068].getD i.toNat 0
  | .pal => [4, 8, 14, 30, 60, 88, 118, 148, 188, 236, 354, 472, 708, 944, 1890, 3778].getD i.toNat 0

/-- DmcRate (R1050). -/
def dmcRate (r : Region) (i : BitVec 4) : Nat :=
  match r with
  | .ntsc => [428, 380, 340, 320, 286, 254, 226, 214, 190, 160, 142, 128, 106, 84, 72, 54].getD i.toNat 0
  | .pal => [398, 354, 316, 298, 276, 236, 210, 198, 176, 148, 132, 118, 98, 78, 66, 50].getD i.toNat 0

/-- The sequencer's cycle values of a region (R1021). -/
structure SeqTable where
  q1      : Nat
  q2      : Nat
  q3      : Nat
  q4      : Nat
  period4 : Nat
  q5      : Nat
  period5 : Nat
deriving DecidableEq, Repr

/-- R1021. -/
def seqTable : Region → SeqTable
  | .ntsc => { q1 := 7457, q2 := 14913, q3 := 22371, q4 := 29829, period4 := 29830, q5 := 37281, period5 := 37282 }
  | .pal => { q1 := 8313, q2 := 16627, q3 := 24939, q4 := 33252, period4 := 33254, q5 := 41565, period5 := 41566 }

/-- Duty (R1033), index 0 first. -/
def dutyBit (duty : BitVec 2) (step : BitVec 3) : Bool :=
  ((match duty.toNat with
    | 0 => [false, true, false, false, false, false, false, false]
    | 1 => [false, true, true, false, false, false, false, false]
    | 2 => [false, true, true, true, true, false, false, false]
    | _ => [true, false, false, true, true, true, true, true]).getD step.toNat false)

/-- Tri (R1034): 15, 14, .., 0, 0, 1, .., 15. -/
def triangleLevel (step : BitVec 5) : Nat := if step.toNat < 16 then 15 - step.toNat else step.toNat - 16

/-! ## Channel units -/

/-- R1031: an envelope at a quarter-frame clock. -/
def envClock (vol : BitVec 4) (halt : Bool) (e : Envelope) : Envelope :=
  if e.start then { start := false, decay := 15, divider := vol }
  else if e.divider = 0 then
    if e.decay ≠ 0 then { e with divider := vol, decay := e.decay - 1 }
    else if halt then { e with divider := vol, decay := 15 }
    else { e with divider := vol }
  else { e with divider := e.divider - 1 }

/-- R1030: a length counter at a half-frame clock. -/
def lengthClock (halt : Bool) (l : Byte) : Byte := if l ≠ 0 ∧ halt = false then l - 1 else l

/-- R1032: the sweep's target period; pulse 1 subtracts in ones' complement. -/
def sweepTarget (first : Bool) (p : Pulse) : Int :=
  let c := p.period.toNat / 2 ^ p.sweepShift.toNat
  if p.sweepNeg then (p.period.toNat : Int) - c - (if first then 1 else 0) else (p.period.toNat : Int) + c

/-- R1032. -/
def sweepMuted (first : Bool) (p : Pulse) : Bool :=
  decide (p.period.toNat < 8) || (!p.sweepNeg && decide (0x7FF < sweepTarget first p))

/-- R1032: the sweep at a half-frame clock. -/
def sweepClock (first : Bool) (p : Pulse) : Pulse :=
  let p' :=
    if p.sweepDiv = 0 ∧ p.sweepEn = true ∧ p.sweepShift ≠ 0 ∧ sweepMuted first p = false then
      { p with period := BitVec.ofInt 11 (sweepTarget first p) }
    else p
  if p.sweepDiv = 0 ∨ p.sweepReload = true then { p' with sweepDiv := p.sweepP, sweepReload := false }
  else { p' with sweepDiv := p.sweepDiv - 1 }

/-- R1033: a pulse timer on an APU cycle. -/
def pulseTimer (p : Pulse) : Pulse :=
  if p.timer = 0 then { p with timer := p.period, step := p.step - 1 } else { p with timer := p.timer - 1 }

/-- The volume of an envelope unit (R1031). -/
def envVolume (constVol : Bool) (vol : BitVec 4) (e : Envelope) : Nat := if constVol then vol.toNat else e.decay.toNat

/-- R1033: a pulse channel's amplitude. -/
def pulseAmplitude (first : Bool) (p : Pulse) : Nat :=
  if dutyBit p.duty p.step = true ∧ p.length ≠ 0 ∧ sweepMuted first p = false then envVolume p.constVol p.vol p.env else 0

/-- R1034: the triangle's linear counter at a quarter-frame clock. -/
def linearClock (t : Triangle) : Triangle :=
  let t' := if t.linReloadFlag then { t with linear := t.linReload }
    else if t.linear ≠ 0 then { t with linear := t.linear - 1 } else t
  if t.control then t' else { t' with linReloadFlag := false }

/-- R1034: the triangle's timer on a CPU cycle. -/
def triangleTimer (t : Triangle) : Triangle :=
  if t.timer = 0 then
    { t with timer := t.period, step := if t.length ≠ 0 ∧ t.linear ≠ 0 then t.step + 1 else t.step }
  else { t with timer := t.timer - 1 }

/-- R1034: the triangle's amplitude; with length 0 its sequencer stops and holds its level (R1030, log 18). -/
def triangleAmplitude (t : Triangle) : Nat := triangleLevel t.step

/-- R1035: the shift register after a clock. -/
def lfsrClock (mode : Bool) (l : BitVec 15) : BitVec 15 :=
  let fb := l.getLsbD 0 ^^ (if mode then l.getLsbD 6 else l.getLsbD 1)
  (l >>> 1) ||| (if fb then 0x4000 else 0)

/-- R1035: the noise timer on a CPU cycle. -/
def noiseTimer (r : Region) (n : Noise) : Noise :=
  if n.timer = 0 then
    { n with timer := BitVec.ofNat 12 (noisePeriod r n.periodIdx - 1), lfsr := lfsrClock n.mode n.lfsr }
  else { n with timer := n.timer - 1 }

/-- R1035: the noise channel's amplitude. -/
def noiseAmplitude (n : Noise) : Nat :=
  if n.lfsr.getLsbD 0 = false ∧ n.length ≠ 0 then envVolume n.constVol n.vol n.env else 0

/-! ## DMC -/

/-- R1042: a fetch is requested whenever the buffer is empty and bytes remain. -/
def dmcRequest (d : Dmc) : Dmc :=
  if d.buffer = none ∧ d.bytesRemaining ≠ 0 then { d with fetchPending := true } else d

/-- R1041: the output level after a sample bit. -/
def dmcLevel (bit : Bool) (l : BitVec 7) : BitVec 7 :=
  if bit then (if l.toNat ≤ 125 then l + 2 else l) else (if 2 ≤ l.toNat then l - 2 else l)

/-- R1041: the output unit when the timer expires. -/
def dmcOutput (d : Dmc) : Dmc :=
  let d := { d with
    outputLevel := if d.silence then d.outputLevel else dmcLevel (d.shift.getLsbD 0) d.outputLevel
    shift := d.shift >>> 1
    bitsRemaining := d.bitsRemaining - 1 }
  if d.bitsRemaining = 0 then
    match d.buffer with
    | none => { d with bitsRemaining := 8, silence := true }
    | some b => { d with bitsRemaining := 8, silence := false, shift := b, buffer := none }
  else d

/-- R1041: the DMC's timer on a CPU cycle, its period being DmcRate cycles (log 13); then the reader's request (R1042). -/
def dmcTimer (r : Region) (d : Dmc) : Dmc :=
  dmcRequest (if d.timer = 0 then dmcOutput { d with timer := BitVec.ofNat 9 (dmcRate r d.rateIdx - 1) }
    else { d with timer := d.timer - 1 })

/-- R1043. -/
def dmcRestart (d : Dmc) : Dmc :=
  { d with currentAddress := d.sampleAddress, bytesRemaining := d.sampleLength.setWidth 12 }

/-- R1042: the byte of a performed fetch. -/
def dmcTake (d : Dmc) (b : Byte) : Dmc :=
  let d := { d with
    buffer := some b
    fetchPending := false
    currentAddress := if d.currentAddress = 0xFFFF then 0x8000 else d.currentAddress + 1
    bytesRemaining := d.bytesRemaining - 1 }
  if d.bytesRemaining = 0 ∧ d.loop = true then dmcRestart d else d

/-- R1042, R1044: whether a performed fetch sets the DMC interrupt flag. -/
def dmcTakeIrq (d : Dmc) : Bool := decide (d.bytesRemaining - 1 = 0) && !d.loop && d.irqEnable

/-! ## Frame sequencer -/

/-- R1020: a quarter-frame clock. -/
def quarterFrame (a : Apu) : Apu :=
  { a with
    pulse1 := { a.pulse1 with env := envClock a.pulse1.vol a.pulse1.halt a.pulse1.env }
    pulse2 := { a.pulse2 with env := envClock a.pulse2.vol a.pulse2.halt a.pulse2.env }
    triangle := linearClock a.triangle
    noise := { a.noise with env := envClock a.noise.vol a.noise.halt a.noise.env } }

/-- R1030, R1032: a pulse channel at a half-frame clock. -/
def pulseHalf (first : Bool) (p : Pulse) : Pulse := sweepClock first { p with length := lengthClock p.halt p.length }

/-- R1020: a half-frame clock. -/
def halfFrame (a : Apu) : Apu :=
  { a with
    pulse1 := pulseHalf true a.pulse1
    pulse2 := pulseHalf false a.pulse2
    triangle := { a.triangle with length := lengthClock a.triangle.control a.triangle.length }
    noise := { a.noise with length := lengthClock a.noise.halt a.noise.length } }

/-- R1020: the cycle gives a quarter-frame clock. -/
def givesQuarter (t : SeqTable) (mode5 : Bool) (c : Nat) : Bool :=
  decide (c = t.q1) || decide (c = t.q3) || decide (c = t.q2)
    || (!mode5 && decide (c = t.q4)) || (mode5 && decide (c = t.q5))

/-- R1020: the cycle gives a half-frame clock. -/
def givesHalf (t : SeqTable) (mode5 : Bool) (c : Nat) : Bool :=
  decide (c = t.q2) || (!mode5 && decide (c = t.q4)) || (mode5 && decide (c = t.q5))

/-- R1020: the sequence length of the mode. -/
def seqPeriod (t : SeqTable) (mode5 : Bool) : Nat := if mode5 then t.period5 else t.period4

/-- R1020: the sequencer on a CPU cycle. -/
def seqClock (r : Region) (a : Apu) : Apu :=
  let t := seqTable r
  let c := a.cycle + 1
  let a := if givesQuarter t a.mode5 c then quarterFrame a else a
  let a := if givesHalf t a.mode5 c then halfFrame a else a
  { a with cycle := if c = seqPeriod t a.mode5 ∨ a.seqRestart = true then 0 else c, seqRestart := false }

/-- R1020: whether the cycle sets the frame interrupt flag. -/
def seqIrq (r : Region) (a : Apu) : Bool :=
  decide (a.cycle + 1 = (seqTable r).q4) && !a.mode5 && !a.irqInhibit

/-- R1033–R1035, R1041: the channel timers on a CPU cycle; the pulses run on every second one. -/
def channelTimers (r : Region) (a : Apu) : Apu :=
  { a with
    apuPhase := !a.apuPhase
    pulse1 := if a.apuPhase then pulseTimer a.pulse1 else a.pulse1
    pulse2 := if a.apuPhase then pulseTimer a.pulse2 else a.pulse2
    triangle := triangleTimer a.triangle
    noise := noiseTimer r a.noise
    dmc := dmcTimer r a.dmc }

/-- One CPU cycle of the APU (60_exceptions.md R856). -/
def apuCycle (r : Region) (a : Apu) : Apu := channelTimers r (seqClock r a)

/-- R1045: the per-channel amplitudes the APU exposes: pulse 1, pulse 2, triangle, noise, DMC. -/
def apuOutputs (a : Apu) : List Nat :=
  [pulseAmplitude true a.pulse1, pulseAmplitude false a.pulse2, triangleAmplitude a.triangle,
   noiseAmplitude a.noise, a.dmc.outputLevel.toNat]

/-! ## Registers -/

/-- R1002: register k of a pulse channel. -/
def pulseWrite (k : Nat) (p : Pulse) (v : Byte) : Pulse :=
  match k with
  | 0 => { p with duty := v.extractLsb' 6 2, halt := v.getLsbD 5, constVol := v.getLsbD 4, vol := v.extractLsb' 0 4 }
  | 1 => { p with sweepEn := v.getLsbD 7, sweepP := v.extractLsb' 4 3, sweepNeg := v.getLsbD 3,
                  sweepShift := v.extractLsb' 0 3, sweepReload := true }
  | 2 => { p with period := p.period.extractLsb' 8 3 ++ v }
  | _ => { p with period := v.extractLsb' 0 3 ++ p.period.extractLsb' 0 8,
                  length := if p.enabled then lengthOf (v.extractLsb' 3 5) else p.length,
                  step := 0, env := { p.env with start := true } }

/-- R1003: 0x4008, 0x400A, 0x400B; 0x4009 has no effect. -/
def triangleWrite (k : Nat) (t : Triangle) (v : Byte) : Triangle :=
  match k with
  | 0 => { t with control := v.getLsbD 7, linReload := v.extractLsb' 0 7 }
  | 1 => t
  | 2 => { t with period := t.period.extractLsb' 8 3 ++ v }
  | _ => { t with period := v.extractLsb' 0 3 ++ t.period.extractLsb' 0 8,
                  length := if t.enabled then lengthOf (v.extractLsb' 3 5) else t.length, linReloadFlag := true }

/-- R1004: 0x400C, 0x400E, 0x400F; 0x400D has no effect. -/
def noiseWrite (k : Nat) (n : Noise) (v : Byte) : Noise :=
  match k with
  | 0 => { n with halt := v.getLsbD 5, constVol := v.getLsbD 4, vol := v.extractLsb' 0 4 }
  | 1 => n
  | 2 => { n with mode := v.getLsbD 7, periodIdx := v.extractLsb' 0 4 }
  | _ => { n with length := if n.enabled then lengthOf (v.extractLsb' 3 5) else n.length,
                  env := { n.env with start := true } }

/-- R1007: 0x4010–0x4013; the interrupt flag is `apuWriteIrq`. -/
def dmcWrite (k : Nat) (d : Dmc) (v : Byte) : Dmc :=
  match k with
  | 0 => { d with irqEnable := v.getLsbD 7, loop := v.getLsbD 6, rateIdx := v.extractLsb' 0 4 }
  | 1 => { d with outputLevel := v.extractLsb' 0 7 }
  | 2 => { d with sampleAddress := 0xC000 + 64 * v.setWidth 16 }
  | _ => { d with sampleLength := 16 * v.setWidth 16 + 1 }

/-- R1006, bit 4: stop the sample, or restart an ended one. A fetch already requested is performed all the same (60_exceptions.md
R843), and takes `bytesRemaining` from 0 to 4095 (R1042, reduced as 00_scope.md R15 says). -/
def dmcEnable (on : Bool) (d : Dmc) : Dmc :=
  if on then (if d.bytesRemaining = 0 then dmcRequest (dmcRestart d) else d)
  else { d with bytesRemaining := 0 }

/-- R1006: the length counter of a channel whose enable bit is written. -/
def enabledLength (on : Bool) (l : Byte) : Byte := if on then l else 0

/-- R1006: the 0x4015 write; the interrupt flag is `apuWriteIrq`. -/
def apuEnableWrite (a : Apu) (v : Byte) : Apu :=
  { a with
    pulse1 := { a.pulse1 with enabled := v.getLsbD 0, length := enabledLength (v.getLsbD 0) a.pulse1.length }
    pulse2 := { a.pulse2 with enabled := v.getLsbD 1, length := enabledLength (v.getLsbD 1) a.pulse2.length }
    triangle := { a.triangle with enabled := v.getLsbD 2, length := enabledLength (v.getLsbD 2) a.triangle.length }
    noise := { a.noise with enabled := v.getLsbD 3, length := enabledLength (v.getLsbD 3) a.noise.length }
    dmc := dmcEnable (v.getLsbD 4) a.dmc }

/-- R1008, D48: the 0x4017 write; the frame interrupt flag is `apuWriteIrq`. -/
def frameCounterWrite (a : Apu) (v : Byte) : Apu :=
  let a := { a with mode5 := v.getLsbD 7, irqInhibit := v.getLsbD 6, seqRestart := true }
  if v.getLsbD 7 then halfFrame (quarterFrame a) else a

/-- `ApuWrite` of 0x4000 + r (R1001). -/
def apuWrite (a : Apu) (r : Nat) (v : Byte) : Apu :=
  if r < 0x04 then { a with pulse1 := pulseWrite r a.pulse1 v }
  else if r < 0x08 then { a with pulse2 := pulseWrite (r - 0x04) a.pulse2 v }
  else if r < 0x0C then { a with triangle := triangleWrite (r - 0x08) a.triangle v }
  else if r < 0x10 then { a with noise := noiseWrite (r - 0x0C) a.noise v }
  else if r < 0x14 then { a with dmc := dmcWrite (r - 0x10) a.dmc v }
  else if r = 0x15 then apuEnableWrite a v
  else if r = 0x17 then frameCounterWrite a v
  else a

/-- The interrupt flags an `ApuWrite` clears: the DMC's by 0x4010 with bit 7 = 0 (R1007) and by 0x4015 (R1006), the frame
flag by 0x4017 with bit 6 = 1 (R1008). -/
def apuWriteIrq (r : Nat) (v : Byte) (p : Pending) : Pending :=
  if r = 0x15 ∨ (r = 0x10 ∧ v.getLsbD 7 = false) then { p with irqDmc := false }
  else if r = 0x17 ∧ v.getLsbD 6 = true then { p with irqApu := false }
  else p

/-- 0x4015 read (R1005): the status bits over one open-bus bit; the frame interrupt flag is cleared. -/
def apuStatusRead (s : State) : Byte × State :=
  let r := drawOpenBus s
  let a := s.apu
  let b : Byte := BitVec.ofBool s.pending.irqDmc ++ BitVec.ofBool s.pending.irqApu ++ r.1.extractLsb' 5 1
    ++ BitVec.ofBool (decide (a.dmc.bytesRemaining ≠ 0)) ++ BitVec.ofBool (decide (a.noise.length ≠ 0))
    ++ BitVec.ofBool (decide (a.triangle.length ≠ 0)) ++ BitVec.ofBool (decide (a.pulse2.length ≠ 0))
    ++ BitVec.ofBool (decide (a.pulse1.length ≠ 0))
  (b, { r.2 with pending := { s.pending with irqApu := false } })

/-- The APU at a warm reset (R1052): as a 0x4015 ← 0x00 write, and the sequencer restarts. DEDUCED: the DMC is stopped, so a
request that stands from an idle step is not carried into the step of the RESET entry (log 15). -/
def apuWarmReset (a : Apu) : Apu :=
  let b := apuEnableWrite a 0
  { b with cycle := 0, seqRestart := false, dmc := { b.dmc with fetchPending := false } }

end Sys2Proof.Machine
end

