-- ==== Sys2Proof/Machine/Bus.lean ====
section
/-! DEFINITION. The CPU bus: read and write routing (20_memory.md R202–R205), device time per CPU cycle (60_exceptions.md R856),
and the CPU cycle: at most one bus access followed by `tick` (70_reset_and_hazards.md R1130). -/

namespace Sys2Proof.Machine

/-! ## Cartridge windows -/

/-- The PRG ROM offset of a CPU address 0x8000–0xFFFF (21_cartridge_mappers.md R322). -/
def prgRomOffset (m : Mapper) (n : Nat) : Nat := m.prgMap.getD ((n - 0x8000) / 0x2000) 0 * 0x2000 + n % 0x2000

/-- The PRG RAM offset of a CPU address 0x6000–0x7FFF (21_cartridge_mappers.md R323, D54). -/
def prgRamOffset (c : Cartridge) (m : Mapper) (n : Nat) : Nat := (m.prgRamMap * 0x2000 + n % 0x2000) % c.prgRamSize

/-- `MapperPrgRomRead` (R322). With no ROM byte at the offset (no cartridge) nothing answers. -/
def prgRomRead (s : State) (n : Nat) : Byte × State :=
  let off := prgRomOffset s.mapper n
  if off < s.cart.prgRom.size then (sparseRead s.cart.prgRom.bytes off, s) else drawOpenBus s

/-- `MapperPrgRamRead` (R323). -/
def prgRamRead (s : State) (n : Nat) : Byte × State :=
  if s.mapper.prgRamOn = true ∧ 0 < s.cart.prgRamSize then
    (sparseRead s.prgRam (prgRamOffset s.cart s.mapper n), s)
  else drawOpenBus s

/-- `MapperPrgRamWrite` (R323): the RAM byte if writable, then NINA-001's registers (R355). -/
def prgRamWrite (s : State) (a : Word) (v : Byte) : State :=
  { s with
    prgRam := if s.mapper.prgRamWE = true ∧ 0 < s.cart.prgRamSize then
        sparseWrite s.prgRam (prgRamOffset s.cart s.mapper a.toNat) v
      else s.prgRam
    mapper := ninaWrite s.cart s.mapper a v }

/-! ## Controller ports -/

/-- A read of port 1 (false) or port 2 (true): the input draw under three open-bus bits (20_memory.md R204, D21). -/
def inputPortRead (s : State) (port : Bool) : Byte × State :=
  let r := drawOpenBus s
  let d := Config.inputRead port s.strobe s.draws.input
  ((r.1 &&& 0xE0) ||| d.setWidth 8, { r.2 with draws := { r.2.draws with input := s.draws.input + 1 } })

/-! ## Routing -/

/-- `CpuRead` (R204): the byte, and the state after the read's side effects (R210). -/
def cpuRead (s : State) (a : Word) : Byte × State :=
  let n := a.toNat
  if n < 0x2000 then (sparseRead s.ram (n % 0x800), s)
  else if n < 0x4000 then ppuRegRead s (n % 8)
  else if n = 0x4015 then apuStatusRead s
  else if n = 0x4016 then inputPortRead s false
  else if n = 0x4017 then inputPortRead s true
  else if n < 0x6000 then drawOpenBus s
  else if n < 0x8000 then prgRamRead s n
  else prgRomRead s n

/-- `CpuWrite` (R205), with its side effects (R211). -/
def cpuWrite (s : State) (a : Word) (v : Byte) : State :=
  let n := a.toNat
  if n < 0x2000 then { s with ram := sparseWrite s.ram (n % 0x800) v }
  else if n < 0x4000 then ppuRegWrite s (n % 8) v
  else if n < 0x4014 ∨ n = 0x4015 ∨ n = 0x4017 then
    { s with apu := apuWrite s.apu (n - 0x4000) v, pending := apuWriteIrq (n - 0x4000) v s.pending }
  else if n = 0x4014 then { s with oamDma := some v }
  else if n = 0x4016 then { s with strobe := v.getLsbD 0 }
  else if n < 0x6000 then s
  else if n < 0x8000 then prgRamWrite s a v
  else { s with mapper := mapperWrite s.params s.cart s.mapper a v, pending := mapperWriteIrq s.mapper a s.pending }

/-! ## Device time -/

/-- PPU dots of one CPU cycle (60_exceptions.md R856). -/
def dotsPerCycle (r : Region) (k : Nat) : Nat :=
  match r with
  | .ntsc => 3
  | .pal => 16 * (k + 1) / 5 - 16 * k / 5

/-- The PAL phase after a CPU cycle (60_exceptions.md R856). -/
def nextPhase (r : Region) (k : Nat) : Nat :=
  match r with
  | .ntsc => k
  | .pal => (k + 1) % 5

/-- The APU's part of a CPU cycle, with the cycle counted. -/
def apuTick (s : State) : State :=
  { s with
    apu := apuCycle s.region s.apu
    pending := { s.pending with irqApu := s.pending.irqApu || seqIrq s.region s.apu }
    palPhase := nextPhase s.region s.palPhase
    cycles := s.cycles + 1 }

/-- `Tick(1)` (60_exceptions.md R856). -/
def tick (s : State) : State := ppuDots (dotsPerCycle s.region s.palPhase) (apuTick s)

/-- `Tick(n)`. -/
def ticks : Nat → State → State
  | 0, s => s
  | n + 1, s => ticks n (tick s)

/-! ## CPU cycles (70_reset_and_hazards.md R1130) -/

/-- A cycle that reads. -/
def cycleRead (s : State) (a : Word) : Byte × State := ((cpuRead s a).1, tick (cpuRead s a).2)

/-- A cycle that writes. -/
def cycleWrite (s : State) (a : Word) (v : Byte) : State := tick (cpuWrite s a v)

/-- A cycle whose read is *dummy* (D12): it happens only under `dummyAccesses`. -/
def dummyRead (s : State) (a : Word) : State := if s.params.dummyAccesses then (cycleRead s a).2 else tick s

/-- A cycle whose write is *dummy* (D12). -/
def dummyWrite (s : State) (a : Word) (v : Byte) : State := if s.params.dummyAccesses then cycleWrite s a v else tick s

end Sys2Proof.Machine
end

