-- ==== Sys2Proof/Machine/Flags.lean ====
section
/-! DEFINITION. The status flags: packing (00_scope.md R17, D3), N and Z (10_state.md R108, R109), the adder and the comparator
(43_arithmetic.md R580, R592), the shifters (44_logic_shift.md R624–R627) and BIT's flags (R623). -/

namespace Sys2Proof.Machine

/-- `SetNZ(v)` (R17). -/
def setNZ (c : Cpu) (v : Byte) : Cpu := { c with n := v.getLsbD 7, z := decide (v = 0) }

/-- `PackP(b)` (R17): bit 5 is 1, bit 4 is B. -/
def packP (b : Bool) (c : Cpu) : Byte :=
  BitVec.ofBool c.n ++ BitVec.ofBool c.v ++ BitVec.ofBool true ++ BitVec.ofBool b
    ++ BitVec.ofBool c.d ++ BitVec.ofBool c.i ++ BitVec.ofBool c.z ++ BitVec.ofBool c.c

/-- `UnpackP(v)` (R17): bits 5 and 4 are discarded. -/
def unpackP (c : Cpu) (v : Byte) : Cpu :=
  { c with n := v.getLsbD 7, v := v.getLsbD 6, d := v.getLsbD 3, i := v.getLsbD 2, z := v.getLsbD 1, c := v.getLsbD 0 }

/-- The carry as a number. -/
def carryNat (c : Cpu) : Nat := if c.c then 1 else 0

/-- `AddC(m)` (R580): binary whatever D says (D1). -/
def addC (c : Cpu) (m : Byte) : Cpu :=
  let sum := c.a.toNat + m.toNat + carryNat c
  let r : Byte := BitVec.ofNat 8 sum
  setNZ { c with a := r, c := decide (0x100 ≤ sum), v := (~~~(c.a ^^^ m) &&& (c.a ^^^ r)).getLsbD 7 } r

/-- `Compare(r, m)` (R592): unsigned; V is unchanged. -/
def compare (c : Cpu) (r m : Byte) : Cpu := setNZ { c with c := decide (m.toNat ≤ r.toNat) } (r - m)

/-- BIT's flags (R623). -/
def bitFlags (c : Cpu) (m : Byte) : Cpu := { c with z := decide (c.a &&& m = 0), n := m.getLsbD 7, v := m.getLsbD 6 }

/-- ASL: the shifted byte and the carry out (R624). -/
def aslByte (_ : Bool) (m : Byte) : Byte × Bool := (m <<< 1, m.getLsbD 7)

/-- LSR (R625). -/
def lsrByte (_ : Bool) (m : Byte) : Byte × Bool := (m >>> 1, m.getLsbD 0)

/-- ROL through the carry in (R626). -/
def rolByte (ci : Bool) (m : Byte) : Byte × Bool := ((m <<< 1) ||| (if ci then 1 else 0), m.getLsbD 7)

/-- ROR through the carry in (R627). -/
def rorByte (ci : Bool) (m : Byte) : Byte × Bool := ((m >>> 1) ||| (if ci then 0x80 else 0), m.getLsbD 0)

/-- A shift's result byte and its flags: the carry out, N and Z of the result. -/
def shiftFlags (f : Bool → Byte → Byte × Bool) (c : Cpu) (m : Byte) : Byte × Cpu :=
  let r := f c.c m
  (r.1, setNZ { c with c := r.2 } r.1)

end Sys2Proof.Machine
end

