-- ==== Sys2Proof/Machine/Ops.lean ====
section
/-! DEFINITION. The named operations over registers, stack and bus: instruction fetch, push and pull (00_scope.md R17), taking an
interrupt and the RESET entry (60_exceptions.md R810–R813), raising IllegalOpcode (R830), the return from an interrupt
(R815), the two DMA engines (R840–R843) and the interrupt check (R802). -/

namespace Sys2Proof.Machine

/-- What a meaning or a step answers. -/
abbrev Result := Host.Outcome State Fault Refusal

/-- The state with other CPU registers. -/
def State.setCpu (s : State) (c : Cpu) : State := { s with cpu := c }

/-- The state with another program counter. -/
def State.setPc (s : State) (a : Word) : State := { s with cpu := { s.cpu with pc := a } }

/-! ## Fetch -/

/-- `Fetch()` (R17): a read cycle at PC, which is then advanced. The byte read is `(cpuRead s s.cpu.pc).1`; a meaning gets it
as its operand, since `fetchInstr` decodes the instruction from these very reads. -/
def fetch (s : State) : State := (cycleRead s s.cpu.pc).2.setPc (s.cpu.pc + 1)

/-- n fetches. -/
def fetchN : Nat → State → State
  | 0, s => s
  | n + 1, s => fetchN n (fetch s)

/-- The byte a fetch reads. -/
def fetched (s : State) : Byte := (cpuRead s s.cpu.pc).1

/-- The instruction at PC: its bytes are what the fetch cycles of the instruction read, each at its own cycle (20_memory.md
R217). JSR's high operand byte, which is fetched after its pushes, is read again by its meaning (45_control.md R661). -/
def fetchInstr (s : State) : Instr :=
  let op := fetched s
  match opcodeLength op with
  | 1 => instrOf op 0 0
  | 2 => instrOf op (fetched (fetch s)) 0
  | _ => instrOf op (fetched (fetch s)) (fetched (fetchN 2 s))

/-! ## Stack -/

/-- The stack address 0x0100 | S (R17). -/
def stackAddr (c : Cpu) : Word := wordOf c.s 0x01

/-- The state with another stack pointer. -/
def State.setS (s : State) (v : Byte) : State := { s with cpu := { s.cpu with s := v } }

/-- `Push(v)` (R17). -/
def push (s : State) (v : Byte) : State := (cycleWrite s (stackAddr s.cpu) v).setS (s.cpu.s - 1)

/-- `Pull()` (R17). -/
def pull (s : State) : Byte × State :=
  let t := s.setS (s.cpu.s + 1)
  cycleRead t (stackAddr t.cpu)

/-- Push PC, high byte first. -/
def pushPc (s : State) : State := push (push s (hiByte s.cpu.pc)) (loByte s.cpu.pc)

/-- Load PC from a vector (20_memory.md R203). -/
def loadVector (s : State) (v : Word) : State :=
  let l := cycleRead s v
  let h := cycleRead l.2 (v + 1)
  h.2.setPc (wordOf l.1 h.1)

/-! ## Taking an exception -/

/-- What BRK (b = 1) and the NMI and IRQ entries (b = 0) share: PC and P are pushed, I is set, PC is loaded from the
vector (46_system.md R680, 60_exceptions.md R810). -/
def enter (b : Bool) (vector : Word) (s : State) : State :=
  let t := pushPc s
  let t := push t (packP b t.cpu)
  loadVector (t.setCpu { t.cpu with i := true }) vector

/-- `Entry(vector)` of NMI and IRQ (R810): two dummy opcode reads (70_reset_and_hazards.md R1141), then the common entry. -/
def interruptEntry (vector : Word) (s : State) : State :=
  enter false vector (dummyRead (dummyRead s s.cpu.pc) s.cpu.pc)

/-- NMI entry (R811). -/
def nmiEntry (s : State) : State := interruptEntry 0xFFFA { s with pending := { s.pending with nmi := false } }

/-- IRQ entry (R813): no pending bit changes. -/
def irqEntry (s : State) : State := interruptEntry 0xFFFE s

/-- The PPU at a warm reset (61_ppu.md R970). -/
def ppuWarmReset (p : Ppu) : Ppu := { p with ctrl := 0, mask := 0, w := false, readBuf := 0 }

/-- The device resets of a warm reset (60_exceptions.md R812, 70_reset_and_hazards.md R1101); all pending bits are cleared. -/
def deviceReset (s : State) : State :=
  { s with
    mapper := resetMapper s.cart
    ppu := ppuWarmReset s.ppu
    apu := apuWarmReset s.apu
    pending := { reset := false, nmi := false, irqApu := false, irqDmc := false, irqMapper := false } }

/-- A RESET entry's stack cycle: a dummy read in place of the push (70_reset_and_hazards.md R1142). -/
def resetStackCycle (s : State) : State := (dummyRead s (stackAddr s.cpu)).setS (s.cpu.s - 1)

/-- RESET entry (60_exceptions.md R812) with the device resets of `reset()`, which come first (log 11). -/
def resetEntry (s : State) : State :=
  let t := (deviceReset s).setCpu { s.cpu with i := true, halted := false }
  let t := dummyRead (dummyRead t t.cpu.pc) t.cpu.pc
  loadVector (resetStackCycle (resetStackCycle (resetStackCycle t))) 0xFFFC

/-- `raise IllegalOpcode(op)` (60_exceptions.md R830): the opcode fetch is the only access, PC stays at the opcode, and the
fault is recorded. -/
def raiseIllegal (op : Byte) (s : State) : State :=
  let t := (cycleRead s s.cpu.pc).2
  t.setCpu { t.cpu with fault := some (op, s.cpu.pc) }

/-- The return from an interrupt (46_system.md R681, 60_exceptions.md R815): P, then PC, from the stack. -/
def returnFromInterrupt (s : State) : State :=
  let p := pull s
  let l := pull (p.2.setCpu (unpackP p.2.cpu p.1))
  let h := pull l.2
  h.2.setPc (wordOf l.1 h.1)

/-! ## DMA -/

/-- Byte k of an OAM DMA from a page: a read cycle, then a cycle in which the PPU takes the byte (R841,
70_reset_and_hazards.md R1143). -/
def oamDmaByte (page : Byte) (k : Nat) (s : State) : State :=
  let r := cycleRead s (wordOf (BitVec.ofNat 8 k) page)
  tick (oamDataWrite r.2 r.1)

/-- The last n bytes of an OAM DMA's 256. -/
def oamDmaBytes (page : Byte) : Nat → State → State
  | 0, s => s
  | n + 1, s => oamDmaBytes page n (oamDmaByte page (255 - n) s)

/-- The OAM DMA the instruction requested, if any (R800 part (3), R841). -/
def oamDmaRun (s : State) : State :=
  match s.oamDma with
  | none => s
  | some page => oamDmaBytes page 256 { s with oamDma := none }

/-- One DMC fetch (R843): the stall's cycles, with the read in the last of them. -/
def dmcFetch (s : State) : State :=
  let four := Config.dmcStallIsFour s.draws.dmcStall
  let t := { s with draws := { s.draws with dmcStall := s.draws.dmcStall + 1 } }
  let t := if four then ticks 3 t else ticks 2 t
  let r := cpuRead t t.apu.dmc.currentAddress
  let d := r.2.apu.dmc
  tick { r.2 with
    apu := { r.2.apu with dmc := dmcTake d r.1 }
    pending := { r.2.pending with irqDmc := r.2.pending.irqDmc || dmcTakeIrq d } }

/-- The DMC fetches requested during the step, and those requested during their own cycles, at most n of them (R843). A
fetch's cycles can empty the buffer at most once, so no more than two are ever made and the bound 4 never binds (log 12). -/
def dmcRun : Nat → State → State
  | 0, s => s
  | n + 1, s => if s.apu.dmc.fetchPending then dmcRun n (dmcFetch s) else s

/-- Part (3) of a step (R800): the DMA stolen in it. After a fault there is none (R830). -/
def finishStep (s : State) : State :=
  if s.cpu.fault = none then dmcRun 4 (oamDmaRun s) else s

/-! ## The interrupt check -/

/-- `IRQline()` (R802). -/
def irqLine (p : Pending) : Bool := p.irqApu || p.irqDmc || p.irqMapper

/-- Part (1) of a step for a core that is not idle (R800, R802): at most one entry. -/
def interruptCheck (s : State) : State :=
  if s.pending.reset then resetEntry s
  else if s.pending.nmi then nmiEntry s
  else if irqLine s.pending && !s.cpu.i then irqEntry s
  else s

/-- A halted core idles unless RESET is pending (R800, R831). -/
def idles (s : State) : Bool := s.cpu.halted && !s.pending.reset

end Sys2Proof.Machine
end

