-- ==== Sys2Proof/Machine/Operands.lean ====
section
/-! DEFINITION. The operand forms: the addressing modes (41_addressing_load_store.md R500–R514) with their bus schedule
(70_reset_and_hazards.md R1131–R1136), and the shared shapes of instructions over them. Every shape begins with the
opcode fetch at PC. -/

namespace Sys2Proof.Machine

/-- What an instruction does at its effective address; it decides the cycle of the unfixed address (R1133, R1135). -/
inductive Access where
  | read
  | write
  | rmw
deriving DecidableEq, Repr

/-- A zero-page address (R504). -/
def zeroPage (z : Byte) : Word := wordOf z 0

/-- R508: the index addition carried out of the low byte. -/
def crosses (base ea : Word) : Bool := decide (hiByte base ≠ hiByte ea)

/-- R1133: `base[15:8] : ea[7:0]`. -/
def unfixed (base ea : Word) : Word := wordOf (loByte ea) (hiByte base)

/-- The indexed address and its cycle: a read that does not cross reads it at once, everything else first reads the
unfixed address, which is dummy (R1133, R1135). -/
def indexed (acc : Access) (base : Word) (index : Byte) (s : State) : Word × State :=
  let ea := base + index.setWidth 16
  if acc = .read ∧ crosses base ea = false then (ea, s) else (ea, dummyRead s (unfixed base ea))

/-- `ReadZP16(z)` (R16): both bytes in page 0. -/
def readZeroPage16 (z : Byte) (s : State) : Word × State :=
  let l := cycleRead s (zeroPage z)
  let h := cycleRead l.2 (zeroPage (z + 1))
  (wordOf l.1 h.1, h.2)

/-- The effective address and the state after its cycles, the opcode fetch included (R504–R511). -/
def addressOf (acc : Access) (m : Addressing) (s : State) : Word × State :=
  match m with
  | .zp z => (zeroPage z, fetchN 2 s)
  | .zpx z => (zeroPage (z + s.cpu.x), dummyRead (fetchN 2 s) (zeroPage z))
  | .zpy z => (zeroPage (z + s.cpu.y), dummyRead (fetchN 2 s) (zeroPage z))
  | .abs a => (a, fetchN 3 s)
  | .abx a => indexed acc a s.cpu.x (fetchN 3 s)
  | .aby a => indexed acc a s.cpu.y (fetchN 3 s)
  | .izx z => readZeroPage16 (z + s.cpu.x) (dummyRead (fetchN 2 s) (zeroPage z))
  | .izy z =>
    let p := readZeroPage16 z (fetchN 2 s)
    indexed acc p.1 s.cpu.y p.2

/-- The operand of a read instruction (R514). -/
def readOperand (src : Source) (s : State) : Byte × State :=
  match src with
  | .imm m => (m, fetchN 2 s)
  | .mem ea =>
    let p := addressOf .read ea s
    cycleRead p.2 p.1

/-- A read instruction: the operand goes to the registers through f. -/
def readOp (f : Cpu → Byte → Cpu) (src : Source) (s : State) : State :=
  let r := readOperand src s
  r.2.setCpu (f r.2.cpu r.1)

/-- A store instruction (R523): the byte is a function of the registers. -/
def storeOp (f : Cpu → Byte) (ea : Addressing) (s : State) : State :=
  let p := addressOf .write ea s
  cycleWrite p.2 p.1 (f s.cpu)

/-- A read-modify-write instruction on memory (R1136): f gives the byte to write and the registers. -/
def rmwOp (f : Cpu → Byte → Byte × Cpu) (ea : Addressing) (s : State) : State :=
  let p := addressOf .rmw ea s
  let r := cycleRead p.2 p.1
  let t := dummyWrite r.2 p.1 r.1
  let q := f t.cpu r.1
  cycleWrite (t.setCpu q.2) p.1 q.1

/-- A one-byte instruction that only changes registers (R501, R502, R1131). -/
def impliedOp (f : Cpu → Cpu) (s : State) : State :=
  let t := fetch s
  let t := dummyRead t t.cpu.pc
  t.setCpu (f t.cpu)

/-- The accumulator form of a shift (R502). -/
def shiftAcc (f : Bool → Byte → Byte × Bool) (c : Cpu) : Cpu :=
  let r := shiftFlags f c c.a
  { r.2 with a := r.1 }

end Sys2Proof.Machine
end

