-- ==== Sys2Proof/Machine/Control.lean ====
section
/-! DEFINITION. Branches, jumps and subroutines (45_control.md R650–R662). -/

namespace Sys2Proof.Machine

/-- The branch target: PC after the fetch plus the signed offset (41_addressing_load_store.md R513). -/
def branchTarget (pc : Word) (off : Byte) : Word := pc + off.signExtend 16

/-- `Branch(cond)` (R650): a taken branch has one more cycle, and another when the target is in another page; their reads are
dummy (70_reset_and_hazards.md R1139). -/
def branch (cond : Cpu → Bool) (off : Byte) (s : State) : State :=
  let t := fetchN 2 s
  if cond t.cpu then
    let target := branchTarget t.cpu.pc off
    let u := dummyRead t t.cpu.pc
    let u := if crosses t.cpu.pc target then dummyRead u (unfixed t.cpu.pc target) else u
    u.setPc target
  else t

/-- JMP absolute (R659). -/
def jumpTo (a : Word) (s : State) : State := (fetchN 3 s).setPc a

/-- `ReadBug16`'s high-byte address (00_scope.md R16): the low byte wraps in the page. -/
def bugHigh (a : Word) : Word := wordOf (loByte a + 1) (hiByte a)

/-- JMP indirect (R660, 70_reset_and_hazards.md R1137). -/
def jumpIndirect (a : Word) (s : State) : State :=
  let l := cycleRead (fetchN 3 s) a
  let h := cycleRead l.2 (bugHigh a)
  h.2.setPc (wordOf l.1 h.1)

/-- JSR (R661, 70_reset_and_hazards.md R1138): the pushes come before the fetch of the high operand byte, whose value is the
one read then. -/
def jumpSubroutine (a : Word) (s : State) : State :=
  let t := fetchN 2 s
  let t := pushPc (dummyRead t (stackAddr t.cpu))
  let h := cycleRead t t.cpu.pc
  h.2.setPc (wordOf (loByte a) h.1)

/-- RTS (R662, 70_reset_and_hazards.md R1138). -/
def returnSubroutine (s : State) : State :=
  let t := fetch s
  let t := dummyRead t t.cpu.pc
  let l := pull (dummyRead t (stackAddr t.cpu))
  let h := pull l.2
  let ret := wordOf l.1 h.1
  (dummyRead h.2 ret).setPc (ret + 1)

/-! ## One meaning per row of the opcode table -/

/-- `BCC off`, opcode 90 (R651). -/
def execBcc (off : Byte) (s : State) : Result := .next (branch (fun c => !c.c) off s)

/-- `BCS off`, opcode B0 (R652). -/
def execBcs (off : Byte) (s : State) : Result := .next (branch (fun c => c.c) off s)

/-- `BEQ off`, opcode F0 (R653). -/
def execBeq (off : Byte) (s : State) : Result := .next (branch (fun c => c.z) off s)

/-- `BNE off`, opcode D0 (R654). -/
def execBne (off : Byte) (s : State) : Result := .next (branch (fun c => !c.z) off s)

/-- `BMI off`, opcode 30 (R655). -/
def execBmi (off : Byte) (s : State) : Result := .next (branch (fun c => c.n) off s)

/-- `BPL off`, opcode 10 (R656). -/
def execBpl (off : Byte) (s : State) : Result := .next (branch (fun c => !c.n) off s)

/-- `BVC off`, opcode 50 (R657). -/
def execBvc (off : Byte) (s : State) : Result := .next (branch (fun c => !c.v) off s)

/-- `BVS off`, opcode 70 (R658). -/
def execBvs (off : Byte) (s : State) : Result := .next (branch (fun c => c.v) off s)

/-- `JMP a`, opcode 4C (R659). -/
def execJmpAbs (a : Word) (s : State) : Result := .next (jumpTo a s)

/-- `JMP (a)`, opcode 6C (R660). -/
def execJmpInd (a : Word) (s : State) : Result := .next (jumpIndirect a s)

/-- `JSR a`, opcode 20 (R661). -/
def execJsr (a : Word) (s : State) : Result := .next (jumpSubroutine a s)

/-- `RTS`, opcode 60 (R662). -/
def execRts (s : State) : Result := .next (returnSubroutine s)

end Sys2Proof.Machine
end

