-- ==== Sys2Proof/Machine/System.lean ====
section
/-! DEFINITION. BRK, RTI, NOP and the status-flag instructions (46_system.md R680–R689). -/

namespace Sys2Proof.Machine

/-- BRK (R680, 70_reset_and_hazards.md R1141): the padding byte is fetched and discarded, then the common entry with B = 1. -/
def softwareInterrupt (s : State) : State := enter true 0xFFFE (fetchN 2 s)

/-- RTI (R681, 70_reset_and_hazards.md R1140). -/
def returnOp (s : State) : State :=
  let t := fetch s
  let t := dummyRead t t.cpu.pc
  returnFromInterrupt (dummyRead t (stackAddr t.cpu))

/-! ## One meaning per row of the opcode table -/

/-- `BRK`, opcode 00 (R680). -/
def execBrk (_sig : Byte) (s : State) : Result := .next (softwareInterrupt s)

/-- `RTI`, opcode 40 (R681). -/
def execRti (s : State) : Result := .next (returnOp s)

/-- `NOP`, opcode EA (R682). -/
def execNop (s : State) : Result := .next (impliedOp id s)

/-- `CLC`, opcode 18 (R683). -/
def execClc (s : State) : Result := .next (impliedOp (fun c => { c with c := false }) s)

/-- `SEC`, opcode 38 (R684). -/
def execSec (s : State) : Result := .next (impliedOp (fun c => { c with c := true }) s)

/-- `CLI`, opcode 58 (R685). -/
def execCli (s : State) : Result := .next (impliedOp (fun c => { c with i := false }) s)

/-- `SEI`, opcode 78 (R686). -/
def execSei (s : State) : Result := .next (impliedOp (fun c => { c with i := true }) s)

/-- `CLD`, opcode D8 (R687). -/
def execCld (s : State) : Result := .next (impliedOp (fun c => { c with d := false }) s)

/-- `SED`, opcode F8 (R688). -/
def execSed (s : State) : Result := .next (impliedOp (fun c => { c with d := true }) s)

/-- `CLV`, opcode B8 (R689). -/
def execClv (s : State) : Result := .next (impliedOp (fun c => { c with v := false }) s)

end Sys2Proof.Machine
end

