-- ==== Sys2Proof/Machine/LoadStore.lean ====
section
/-! DEFINITION. Loads and stores (41_addressing_load_store.md R520–R525). -/

namespace Sys2Proof.Machine

/-- LDA's effect on the registers (R520). -/
def loadA (c : Cpu) (m : Byte) : Cpu := setNZ { c with a := m } m

/-- LDX's (R521). -/
def loadX (c : Cpu) (m : Byte) : Cpu := setNZ { c with x := m } m

/-- LDY's (R522). -/
def loadY (c : Cpu) (m : Byte) : Cpu := setNZ { c with y := m } m

/-! ## One meaning per row of the opcode table -/

/-- `LDA (z,X)`, opcode A1 (R520). -/
def execLdaIzx (z : Byte) (s : State) : Result := .next (readOp loadA (.mem (.izx z)) s)

/-- `LDA z`, opcode A5 (R520). -/
def execLdaZp (z : Byte) (s : State) : Result := .next (readOp loadA (.mem (.zp z)) s)

/-- `LDA #m`, opcode A9 (R520). -/
def execLdaImm (m : Byte) (s : State) : Result := .next (readOp loadA (.imm m) s)

/-- `LDA a`, opcode AD (R520). -/
def execLdaAbs (a : Word) (s : State) : Result := .next (readOp loadA (.mem (.abs a)) s)

/-- `LDA (z),Y`, opcode B1 (R520). -/
def execLdaIzy (z : Byte) (s : State) : Result := .next (readOp loadA (.mem (.izy z)) s)

/-- `LDA z,X`, opcode B5 (R520). -/
def execLdaZpx (z : Byte) (s : State) : Result := .next (readOp loadA (.mem (.zpx z)) s)

/-- `LDA a,Y`, opcode B9 (R520). -/
def execLdaAby (a : Word) (s : State) : Result := .next (readOp loadA (.mem (.aby a)) s)

/-- `LDA a,X`, opcode BD (R520). -/
def execLdaAbx (a : Word) (s : State) : Result := .next (readOp loadA (.mem (.abx a)) s)

/-- `LDX #m`, opcode A2 (R521). -/
def execLdxImm (m : Byte) (s : State) : Result := .next (readOp loadX (.imm m) s)

/-- `LDX z`, opcode A6 (R521). -/
def execLdxZp (z : Byte) (s : State) : Result := .next (readOp loadX (.mem (.zp z)) s)

/-- `LDX a`, opcode AE (R521). -/
def execLdxAbs (a : Word) (s : State) : Result := .next (readOp loadX (.mem (.abs a)) s)

/-- `LDX z,Y`, opcode B6 (R521). -/
def execLdxZpy (z : Byte) (s : State) : Result := .next (readOp loadX (.mem (.zpy z)) s)

/-- `LDX a,Y`, opcode BE (R521). -/
def execLdxAby (a : Word) (s : State) : Result := .next (readOp loadX (.mem (.aby a)) s)

/-- `LDY #m`, opcode A0 (R522). -/
def execLdyImm (m : Byte) (s : State) : Result := .next (readOp loadY (.imm m) s)

/-- `LDY z`, opcode A4 (R522). -/
def execLdyZp (z : Byte) (s : State) : Result := .next (readOp loadY (.mem (.zp z)) s)

/-- `LDY a`, opcode AC (R522). -/
def execLdyAbs (a : Word) (s : State) : Result := .next (readOp loadY (.mem (.abs a)) s)

/-- `LDY z,X`, opcode B4 (R522). -/
def execLdyZpx (z : Byte) (s : State) : Result := .next (readOp loadY (.mem (.zpx z)) s)

/-- `LDY a,X`, opcode BC (R522). -/
def execLdyAbx (a : Word) (s : State) : Result := .next (readOp loadY (.mem (.abx a)) s)

/-- `STA (z,X)`, opcode 81 (R523). -/
def execStaIzx (z : Byte) (s : State) : Result := .next (storeOp Cpu.a (.izx z) s)

/-- `STA z`, opcode 85 (R523). -/
def execStaZp (z : Byte) (s : State) : Result := .next (storeOp Cpu.a (.zp z) s)

/-- `STA a`, opcode 8D (R523). -/
def execStaAbs (a : Word) (s : State) : Result := .next (storeOp Cpu.a (.abs a) s)

/-- `STA (z),Y`, opcode 91 (R523). -/
def execStaIzy (z : Byte) (s : State) : Result := .next (storeOp Cpu.a (.izy z) s)

/-- `STA z,X`, opcode 95 (R523). -/
def execStaZpx (z : Byte) (s : State) : Result := .next (storeOp Cpu.a (.zpx z) s)

/-- `STA a,Y`, opcode 99 (R523). -/
def execStaAby (a : Word) (s : State) : Result := .next (storeOp Cpu.a (.aby a) s)

/-- `STA a,X`, opcode 9D (R523). -/
def execStaAbx (a : Word) (s : State) : Result := .next (storeOp Cpu.a (.abx a) s)

/-- `STX z`, opcode 86 (R524). -/
def execStxZp (z : Byte) (s : State) : Result := .next (storeOp Cpu.x (.zp z) s)

/-- `STX a`, opcode 8E (R524). -/
def execStxAbs (a : Word) (s : State) : Result := .next (storeOp Cpu.x (.abs a) s)

/-- `STX z,Y`, opcode 96 (R524). -/
def execStxZpy (z : Byte) (s : State) : Result := .next (storeOp Cpu.x (.zpy z) s)

/-- `STY z`, opcode 84 (R525). -/
def execStyZp (z : Byte) (s : State) : Result := .next (storeOp Cpu.y (.zp z) s)

/-- `STY a`, opcode 8C (R525). -/
def execStyAbs (a : Word) (s : State) : Result := .next (storeOp Cpu.y (.abs a) s)

/-- `STY z,X`, opcode 94 (R525). -/
def execStyZpx (z : Byte) (s : State) : Result := .next (storeOp Cpu.y (.zpx z) s)

end Sys2Proof.Machine
end

