-- ==== Sys2Proof/Machine/TransferStack.lean ====
section
/-! DEFINITION. Register transfers and stack instructions (42_transfer_stack.md R550–R559). -/

namespace Sys2Proof.Machine

/-- PHA and PHP (R556, R557; 70_reset_and_hazards.md R1140). -/
def pushOp (f : Cpu → Byte) (s : State) : State :=
  let t := fetch s
  push (dummyRead t t.cpu.pc) (f s.cpu)

/-- PLA and PLP (R558, R559; 70_reset_and_hazards.md R1140). -/
def pullOp (f : Cpu → Byte → Cpu) (s : State) : State :=
  let t := fetch s
  let t := dummyRead t t.cpu.pc
  let r := pull (dummyRead t (stackAddr t.cpu))
  r.2.setCpu (f r.2.cpu r.1)

/-! ## One meaning per row of the opcode table -/

/-- `TAX`, opcode AA (R550). -/
def execTax (s : State) : Result := .next (impliedOp (fun c => loadX c c.a) s)

/-- `TAY`, opcode A8 (R551). -/
def execTay (s : State) : Result := .next (impliedOp (fun c => loadY c c.a) s)

/-- `TXA`, opcode 8A (R552). -/
def execTxa (s : State) : Result := .next (impliedOp (fun c => loadA c c.x) s)

/-- `TYA`, opcode 98 (R553). -/
def execTya (s : State) : Result := .next (impliedOp (fun c => loadA c c.y) s)

/-- `TSX`, opcode BA (R554). -/
def execTsx (s : State) : Result := .next (impliedOp (fun c => loadX c c.s) s)

/-- `TXS`, opcode 9A (R555). -/
def execTxs (s : State) : Result := .next (impliedOp (fun c => { c with s := c.x }) s)

/-- `PHA`, opcode 48 (R556). -/
def execPha (s : State) : Result := .next (pushOp Cpu.a s)

/-- `PHP`, opcode 08 (R557). -/
def execPhp (s : State) : Result := .next (pushOp (packP true) s)

/-- `PLA`, opcode 68 (R558). -/
def execPla (s : State) : Result := .next (pullOp loadA s)

/-- `PLP`, opcode 28 (R559). -/
def execPlp (s : State) : Result := .next (pullOp unpackP s)

end Sys2Proof.Machine
end

