-- ==== Sys2Proof/Machine/Arithmetic.lean ====
section
/-! DEFINITION. Arithmetic, compare, increment and decrement (43_arithmetic.md R580–R592). -/

namespace Sys2Proof.Machine

/-- SBC: A − M − (1 − C) as A + ~M + C (R582). -/
def subC (c : Cpu) (m : Byte) : Cpu := addC c (~~~m)

/-- INC's byte and flags (R586). -/
def incByte (c : Cpu) (m : Byte) : Byte × Cpu := (m + 1, setNZ c (m + 1))

/-- DEC's byte and flags (R589). -/
def decByte (c : Cpu) (m : Byte) : Byte × Cpu := (m - 1, setNZ c (m - 1))

/-! ## One meaning per row of the opcode table -/

/-- `ADC (z,X)`, opcode 61 (R581). -/
def execAdcIzx (z : Byte) (s : State) : Result := .next (readOp addC (.mem (.izx z)) s)

/-- `ADC z`, opcode 65 (R581). -/
def execAdcZp (z : Byte) (s : State) : Result := .next (readOp addC (.mem (.zp z)) s)

/-- `ADC #m`, opcode 69 (R581). -/
def execAdcImm (m : Byte) (s : State) : Result := .next (readOp addC (.imm m) s)

/-- `ADC a`, opcode 6D (R581). -/
def execAdcAbs (a : Word) (s : State) : Result := .next (readOp addC (.mem (.abs a)) s)

/-- `ADC (z),Y`, opcode 71 (R581). -/
def execAdcIzy (z : Byte) (s : State) : Result := .next (readOp addC (.mem (.izy z)) s)

/-- `ADC z,X`, opcode 75 (R581). -/
def execAdcZpx (z : Byte) (s : State) : Result := .next (readOp addC (.mem (.zpx z)) s)

/-- `ADC a,Y`, opcode 79 (R581). -/
def execAdcAby (a : Word) (s : State) : Result := .next (readOp addC (.mem (.aby a)) s)

/-- `ADC a,X`, opcode 7D (R581). -/
def execAdcAbx (a : Word) (s : State) : Result := .next (readOp addC (.mem (.abx a)) s)

/-- `SBC (z,X)`, opcode E1 (R582). -/
def execSbcIzx (z : Byte) (s : State) : Result := .next (readOp subC (.mem (.izx z)) s)

/-- `SBC z`, opcode E5 (R582). -/
def execSbcZp (z : Byte) (s : State) : Result := .next (readOp subC (.mem (.zp z)) s)

/-- `SBC #m`, opcode E9 (R582). -/
def execSbcImm (m : Byte) (s : State) : Result := .next (readOp subC (.imm m) s)

/-- `SBC a`, opcode ED (R582). -/
def execSbcAbs (a : Word) (s : State) : Result := .next (readOp subC (.mem (.abs a)) s)

/-- `SBC (z),Y`, opcode F1 (R582). -/
def execSbcIzy (z : Byte) (s : State) : Result := .next (readOp subC (.mem (.izy z)) s)

/-- `SBC z,X`, opcode F5 (R582). -/
def execSbcZpx (z : Byte) (s : State) : Result := .next (readOp subC (.mem (.zpx z)) s)

/-- `SBC a,Y`, opcode F9 (R582). -/
def execSbcAby (a : Word) (s : State) : Result := .next (readOp subC (.mem (.aby a)) s)

/-- `SBC a,X`, opcode FD (R582). -/
def execSbcAbx (a : Word) (s : State) : Result := .next (readOp subC (.mem (.abx a)) s)

/-- `CMP (z,X)`, opcode C1 (R583). -/
def execCmpIzx (z : Byte) (s : State) : Result := .next (readOp (fun c m => compare c c.a m) (.mem (.izx z)) s)

/-- `CMP z`, opcode C5 (R583). -/
def execCmpZp (z : Byte) (s : State) : Result := .next (readOp (fun c m => compare c c.a m) (.mem (.zp z)) s)

/-- `CMP #m`, opcode C9 (R583). -/
def execCmpImm (m : Byte) (s : State) : Result := .next (readOp (fun c m => compare c c.a m) (.imm m) s)

/-- `CMP a`, opcode CD (R583). -/
def execCmpAbs (a : Word) (s : State) : Result := .next (readOp (fun c m => compare c c.a m) (.mem (.abs a)) s)

/-- `CMP (z),Y`, opcode D1 (R583). -/
def execCmpIzy (z : Byte) (s : State) : Result := .next (readOp (fun c m => compare c c.a m) (.mem (.izy z)) s)

/-- `CMP z,X`, opcode D5 (R583). -/
def execCmpZpx (z : Byte) (s : State) : Result := .next (readOp (fun c m => compare c c.a m) (.mem (.zpx z)) s)

/-- `CMP a,Y`, opcode D9 (R583). -/
def execCmpAby (a : Word) (s : State) : Result := .next (readOp (fun c m => compare c c.a m) (.mem (.aby a)) s)

/-- `CMP a,X`, opcode DD (R583). -/
def execCmpAbx (a : Word) (s : State) : Result := .next (readOp (fun c m => compare c c.a m) (.mem (.abx a)) s)

/-- `CPX #m`, opcode E0 (R584). -/
def execCpxImm (m : Byte) (s : State) : Result := .next (readOp (fun c m => compare c c.x m) (.imm m) s)

/-- `CPX z`, opcode E4 (R584). -/
def execCpxZp (z : Byte) (s : State) : Result := .next (readOp (fun c m => compare c c.x m) (.mem (.zp z)) s)

/-- `CPX a`, opcode EC (R584). -/
def execCpxAbs (a : Word) (s : State) : Result := .next (readOp (fun c m => compare c c.x m) (.mem (.abs a)) s)

/-- `CPY #m`, opcode C0 (R585). -/
def execCpyImm (m : Byte) (s : State) : Result := .next (readOp (fun c m => compare c c.y m) (.imm m) s)

/-- `CPY z`, opcode C4 (R585). -/
def execCpyZp (z : Byte) (s : State) : Result := .next (readOp (fun c m => compare c c.y m) (.mem (.zp z)) s)

/-- `CPY a`, opcode CC (R585). -/
def execCpyAbs (a : Word) (s : State) : Result := .next (readOp (fun c m => compare c c.y m) (.mem (.abs a)) s)

/-- `INC z`, opcode E6 (R586). -/
def execIncZp (z : Byte) (s : State) : Result := .next (rmwOp incByte (.zp z) s)

/-- `INC a`, opcode EE (R586). -/
def execIncAbs (a : Word) (s : State) : Result := .next (rmwOp incByte (.abs a) s)

/-- `INC z,X`, opcode F6 (R586). -/
def execIncZpx (z : Byte) (s : State) : Result := .next (rmwOp incByte (.zpx z) s)

/-- `INC a,X`, opcode FE (R586). -/
def execIncAbx (a : Word) (s : State) : Result := .next (rmwOp incByte (.abx a) s)

/-- `INX`, opcode E8 (R587). -/
def execInx (s : State) : Result := .next (impliedOp (fun c => loadX c (c.x + 1)) s)

/-- `INY`, opcode C8 (R588). -/
def execIny (s : State) : Result := .next (impliedOp (fun c => loadY c (c.y + 1)) s)

/-- `DEC z`, opcode C6 (R589). -/
def execDecZp (z : Byte) (s : State) : Result := .next (rmwOp decByte (.zp z) s)

/-- `DEC a`, opcode CE (R589). -/
def execDecAbs (a : Word) (s : State) : Result := .next (rmwOp decByte (.abs a) s)

/-- `DEC z,X`, opcode D6 (R589). -/
def execDecZpx (z : Byte) (s : State) : Result := .next (rmwOp decByte (.zpx z) s)

/-- `DEC a,X`, opcode DE (R589). -/
def execDecAbx (a : Word) (s : State) : Result := .next (rmwOp decByte (.abx a) s)

/-- `DEX`, opcode CA (R590). -/
def execDex (s : State) : Result := .next (impliedOp (fun c => loadX c (c.x - 1)) s)

/-- `DEY`, opcode 88 (R591). -/
def execDey (s : State) : Result := .next (impliedOp (fun c => loadY c (c.y - 1)) s)

end Sys2Proof.Machine
end

