-- ==== Sys2Proof/Machine/Logic.lean ====
section
/-! DEFINITION. Logic, bit test, shifts and rotates (44_logic_shift.md R620–R627). -/

namespace Sys2Proof.Machine

/-- AND (R620). -/
def andA (c : Cpu) (m : Byte) : Cpu := loadA c (c.a &&& m)

/-- ORA (R621). -/
def oraA (c : Cpu) (m : Byte) : Cpu := loadA c (c.a ||| m)

/-- EOR (R622). -/
def eorA (c : Cpu) (m : Byte) : Cpu := loadA c (c.a ^^^ m)

/-! ## One meaning per row of the opcode table -/

/-- `AND (z,X)`, opcode 21 (R620). -/
def execAndIzx (z : Byte) (s : State) : Result := .next (readOp andA (.mem (.izx z)) s)

/-- `AND z`, opcode 25 (R620). -/
def execAndZp (z : Byte) (s : State) : Result := .next (readOp andA (.mem (.zp z)) s)

/-- `AND #m`, opcode 29 (R620). -/
def execAndImm (m : Byte) (s : State) : Result := .next (readOp andA (.imm m) s)

/-- `AND a`, opcode 2D (R620). -/
def execAndAbs (a : Word) (s : State) : Result := .next (readOp andA (.mem (.abs a)) s)

/-- `AND (z),Y`, opcode 31 (R620). -/
def execAndIzy (z : Byte) (s : State) : Result := .next (readOp andA (.mem (.izy z)) s)

/-- `AND z,X`, opcode 35 (R620). -/
def execAndZpx (z : Byte) (s : State) : Result := .next (readOp andA (.mem (.zpx z)) s)

/-- `AND a,Y`, opcode 39 (R620). -/
def execAndAby (a : Word) (s : State) : Result := .next (readOp andA (.mem (.aby a)) s)

/-- `AND a,X`, opcode 3D (R620). -/
def execAndAbx (a : Word) (s : State) : Result := .next (readOp andA (.mem (.abx a)) s)

/-- `ORA (z,X)`, opcode 01 (R621). -/
def execOraIzx (z : Byte) (s : State) : Result := .next (readOp oraA (.mem (.izx z)) s)

/-- `ORA z`, opcode 05 (R621). -/
def execOraZp (z : Byte) (s : State) : Result := .next (readOp oraA (.mem (.zp z)) s)

/-- `ORA #m`, opcode 09 (R621). -/
def execOraImm (m : Byte) (s : State) : Result := .next (readOp oraA (.imm m) s)

/-- `ORA a`, opcode 0D (R621). -/
def execOraAbs (a : Word) (s : State) : Result := .next (readOp oraA (.mem (.abs a)) s)

/-- `ORA (z),Y`, opcode 11 (R621). -/
def execOraIzy (z : Byte) (s : State) : Result := .next (readOp oraA (.mem (.izy z)) s)

/-- `ORA z,X`, opcode 15 (R621). -/
def execOraZpx (z : Byte) (s : State) : Result := .next (readOp oraA (.mem (.zpx z)) s)

/-- `ORA a,Y`, opcode 19 (R621). -/
def execOraAby (a : Word) (s : State) : Result := .next (readOp oraA (.mem (.aby a)) s)

/-- `ORA a,X`, opcode 1D (R621). -/
def execOraAbx (a : Word) (s : State) : Result := .next (readOp oraA (.mem (.abx a)) s)

/-- `EOR (z,X)`, opcode 41 (R622). -/
def execEorIzx (z : Byte) (s : State) : Result := .next (readOp eorA (.mem (.izx z)) s)

/-- `EOR z`, opcode 45 (R622). -/
def execEorZp (z : Byte) (s : State) : Result := .next (readOp eorA (.mem (.zp z)) s)

/-- `EOR #m`, opcode 49 (R622). -/
def execEorImm (m : Byte) (s : State) : Result := .next (readOp eorA (.imm m) s)

/-- `EOR a`, opcode 4D (R622). -/
def execEorAbs (a : Word) (s : State) : Result := .next (readOp eorA (.mem (.abs a)) s)

/-- `EOR (z),Y`, opcode 51 (R622). -/
def execEorIzy (z : Byte) (s : State) : Result := .next (readOp eorA (.mem (.izy z)) s)

/-- `EOR z,X`, opcode 55 (R622). -/
def execEorZpx (z : Byte) (s : State) : Result := .next (readOp eorA (.mem (.zpx z)) s)

/-- `EOR a,Y`, opcode 59 (R622). -/
def execEorAby (a : Word) (s : State) : Result := .next (readOp eorA (.mem (.aby a)) s)

/-- `EOR a,X`, opcode 5D (R622). -/
def execEorAbx (a : Word) (s : State) : Result := .next (readOp eorA (.mem (.abx a)) s)

/-- `BIT z`, opcode 24 (R623). -/
def execBitZp (z : Byte) (s : State) : Result := .next (readOp bitFlags (.mem (.zp z)) s)

/-- `BIT a`, opcode 2C (R623). -/
def execBitAbs (a : Word) (s : State) : Result := .next (readOp bitFlags (.mem (.abs a)) s)

/-- `ASL z`, opcode 06 (R624). -/
def execAslZp (z : Byte) (s : State) : Result := .next (rmwOp (shiftFlags aslByte) (.zp z) s)

/-- `ASL A`, opcode 0A (R624). -/
def execAslAcc (s : State) : Result := .next (impliedOp (shiftAcc aslByte) s)

/-- `ASL a`, opcode 0E (R624). -/
def execAslAbs (a : Word) (s : State) : Result := .next (rmwOp (shiftFlags aslByte) (.abs a) s)

/-- `ASL z,X`, opcode 16 (R624). -/
def execAslZpx (z : Byte) (s : State) : Result := .next (rmwOp (shiftFlags aslByte) (.zpx z) s)

/-- `ASL a,X`, opcode 1E (R624). -/
def execAslAbx (a : Word) (s : State) : Result := .next (rmwOp (shiftFlags aslByte) (.abx a) s)

/-- `LSR z`, opcode 46 (R625). -/
def execLsrZp (z : Byte) (s : State) : Result := .next (rmwOp (shiftFlags lsrByte) (.zp z) s)

/-- `LSR A`, opcode 4A (R625). -/
def execLsrAcc (s : State) : Result := .next (impliedOp (shiftAcc lsrByte) s)

/-- `LSR a`, opcode 4E (R625). -/
def execLsrAbs (a : Word) (s : State) : Result := .next (rmwOp (shiftFlags lsrByte) (.abs a) s)

/-- `LSR z,X`, opcode 56 (R625). -/
def execLsrZpx (z : Byte) (s : State) : Result := .next (rmwOp (shiftFlags lsrByte) (.zpx z) s)

/-- `LSR a,X`, opcode 5E (R625). -/
def execLsrAbx (a : Word) (s : State) : Result := .next (rmwOp (shiftFlags lsrByte) (.abx a) s)

/-- `ROL z`, opcode 26 (R626). -/
def execRolZp (z : Byte) (s : State) : Result := .next (rmwOp (shiftFlags rolByte) (.zp z) s)

/-- `ROL A`, opcode 2A (R626). -/
def execRolAcc (s : State) : Result := .next (impliedOp (shiftAcc rolByte) s)

/-- `ROL a`, opcode 2E (R626). -/
def execRolAbs (a : Word) (s : State) : Result := .next (rmwOp (shiftFlags rolByte) (.abs a) s)

/-- `ROL z,X`, opcode 36 (R626). -/
def execRolZpx (z : Byte) (s : State) : Result := .next (rmwOp (shiftFlags rolByte) (.zpx z) s)

/-- `ROL a,X`, opcode 3E (R626). -/
def execRolAbx (a : Word) (s : State) : Result := .next (rmwOp (shiftFlags rolByte) (.abx a) s)

/-- `ROR z`, opcode 66 (R627). -/
def execRorZp (z : Byte) (s : State) : Result := .next (rmwOp (shiftFlags rorByte) (.zp z) s)

/-- `ROR A`, opcode 6A (R627). -/
def execRorAcc (s : State) : Result := .next (impliedOp (shiftAcc rorByte) s)

/-- `ROR a`, opcode 6E (R627). -/
def execRorAbs (a : Word) (s : State) : Result := .next (rmwOp (shiftFlags rorByte) (.abs a) s)

/-- `ROR z,X`, opcode 76 (R627). -/
def execRorZpx (z : Byte) (s : State) : Result := .next (rmwOp (shiftFlags rorByte) (.zpx z) s)

/-- `ROR a,X`, opcode 7E (R627). -/
def execRorAbx (a : Word) (s : State) : Result := .next (rmwOp (shiftFlags rorByte) (.abx a) s)

end Sys2Proof.Machine
end

