-- ==== Sys2Proof/Machine/Undocumented.lean ====
section
/-! DEFINITION. Undocumented opcodes (47_undocumented.md R710–R735). The opcode byte is what IllegalOpcode records. -/

namespace Sys2Proof.Machine

/-! ## Lengths, cycles and the three policies -/

/-- Instruction bytes of a memory mode (30_encoding.md R400). -/
def addressingBytes : Addressing → Nat
  | .zp _ | .zpx _ | .zpy _ | .izx _ | .izy _ => 2
  | .abs _ | .abx _ | .aby _ => 3

/-- Whether the indexed address of a read crosses a page, found without an access (R712): a zero-page pointer always lies in
RAM. -/
def crossOf (m : Addressing) (s : State) : Bool :=
  match m with
  | .abx a => crosses a (a + s.cpu.x.setWidth 16)
  | .aby a => crosses a (a + s.cpu.y.setWidth 16)
  | .izy z =>
    let base := wordOf (sparseRead s.ram z.toNat) (sparseRead s.ram (z + 1).toNat)
    crosses base (base + s.cpu.y.setWidth 16)
  | _ => false

/-- Cycles of a read instruction (70_reset_and_hazards.md R1120). -/
def readCycles (m : Addressing) (s : State) : Nat :=
  (match m with
    | .zp _ => 3
    | .zpx _ | .zpy _ | .abs _ | .abx _ | .aby _ => 4
    | .izx _ => 6
    | .izy _ => 5) + (if crossOf m s then 1 else 0)

/-- Cycles of a store (R1120). -/
def writeCycles : Addressing → Nat
  | .zp _ => 3
  | .zpx _ | .zpy _ | .abs _ => 4
  | .abx _ | .aby _ => 5
  | .izx _ | .izy _ => 6

/-- Cycles of a read-modify-write instruction (R1120). -/
def rmwCycles : Addressing → Nat
  | .zp _ => 5
  | .zpx _ | .zpy _ | .abs _ => 6
  | .abx _ | .aby _ => 7
  | .izx _ | .izy _ => 8

/-- Policy `nop` (R712): the bytes are fetched, no other access is made, and the rest of the cycles pass. -/
def skipOp (bytes cycles : Nat) (s : State) : State := ticks (cycles - bytes) (fetchN bytes s)

/-- The effect of an undocumented opcode under each policy (R710–R713). -/
def undocumented (op : Byte) (bytes cycles : Nat) (nmos : State → State) (s : State) : State :=
  match s.params.undocPolicy with
  | .fault => raiseIllegal op s
  | .nop => skipOp bytes cycles s
  | .nmos => nmos s

/-- An undocumented opcode of the shape of a read instruction. -/
def undocRead (op : Byte) (f : Cpu → Byte → Cpu) (src : Source) (s : State) : State :=
  match src with
  | .imm _ => undocumented op 2 2 (readOp f src) s
  | .mem m => undocumented op (addressingBytes m) (readCycles m s) (readOp f src) s

/-- An undocumented opcode of the shape of a store. -/
def undocStore (op : Byte) (f : Cpu → Byte) (m : Addressing) (s : State) : State :=
  undocumented op (addressingBytes m) (writeCycles m) (storeOp f m) s

/-- An undocumented opcode of the shape of a read-modify-write instruction. -/
def undocRmw (op : Byte) (f : Cpu → Byte → Byte × Cpu) (m : Addressing) (s : State) : State :=
  undocumented op (addressingBytes m) (rmwCycles m) (rmwOp f m) s

/-- An undocumented one-byte NOP (R733). -/
def undocNop (op : Byte) (s : State) : State := undocumented op 1 2 (impliedOp id) s

/-- JAM under `nmos` (R714): PC passes the opcode and the core halts (log 17). -/
def haltOp (s : State) : State :=
  let t := fetch s
  t.setCpu { t.cpu with halted := true }

/-- JAM (R714). -/
def jam (op : Byte) (s : State) : State := undocumented op 1 2 haltOp s

/-- An unstable opcode (R735): under `nmos` it raises IllegalOpcode like under `fault`. -/
def unstable (op : Byte) (bytes cycles : Nat) (s : State) : State :=
  undocumented op bytes cycles (raiseIllegal op) s

/-! ## Effects under `nmos` -/

/-- SLO (R720): ASL, then ORA. -/
def slo (c : Cpu) (m : Byte) : Byte × Cpu :=
  let r := shiftFlags aslByte c m
  (r.1, oraA r.2 r.1)

/-- RLA (R721): ROL, then AND. -/
def rla (c : Cpu) (m : Byte) : Byte × Cpu :=
  let r := shiftFlags rolByte c m
  (r.1, andA r.2 r.1)

/-- SRE (R722): LSR, then EOR. -/
def sre (c : Cpu) (m : Byte) : Byte × Cpu :=
  let r := shiftFlags lsrByte c m
  (r.1, eorA r.2 r.1)

/-- RRA (R723): ROR, then ADC with the carry of the rotate. -/
def rra (c : Cpu) (m : Byte) : Byte × Cpu :=
  let r := shiftFlags rorByte c m
  (r.1, addC r.2 r.1)

/-- DCP (R726): DEC, then CMP. -/
def dcp (c : Cpu) (m : Byte) : Byte × Cpu := (m - 1, compare c c.a (m - 1))

/-- ISC (R727): INC, then SBC. -/
def isc (c : Cpu) (m : Byte) : Byte × Cpu := (m + 1, subC c (m + 1))

/-- LAX (R725). -/
def lax (c : Cpu) (m : Byte) : Cpu := setNZ { c with a := m, x := m } m

/-- LAS (R734). -/
def las (c : Cpu) (m : Byte) : Cpu := setNZ { c with a := m &&& c.s, x := m &&& c.s, s := m &&& c.s } (m &&& c.s)

/-- ANC (R728): AND, and C is the result's bit 7. -/
def anc (c : Cpu) (m : Byte) : Cpu := { andA c m with c := (c.a &&& m).getLsbD 7 }

/-- ALR (R729): AND, then LSR of A. -/
def alr (c : Cpu) (m : Byte) : Cpu := shiftAcc lsrByte { c with a := c.a &&& m }

/-- ARR (R730): AND, then a rotate right, with C from bit 6 and V from bits 6 and 5 of the result. -/
def arr (c : Cpu) (m : Byte) : Cpu :=
  let r := (rorByte c.c (c.a &&& m)).1
  { loadA c r with c := r.getLsbD 6, v := r.getLsbD 6 ^^ r.getLsbD 5 }

/-- AXS (R731): X is A & X minus M, with the flags of a compare. -/
def axs (c : Cpu) (m : Byte) : Cpu := { compare c (c.a &&& c.x) m with x := (c.a &&& c.x) - m }

/-! ## One meaning per row of the opcode table -/

/-- `JAM`, opcode 02 (R714). -/
def execJam02 (s : State) : Result := .next (jam 0x02 s)

/-- `JAM`, opcode 12 (R714). -/
def execJam12 (s : State) : Result := .next (jam 0x12 s)

/-- `JAM`, opcode 22 (R714). -/
def execJam22 (s : State) : Result := .next (jam 0x22 s)

/-- `JAM`, opcode 32 (R714). -/
def execJam32 (s : State) : Result := .next (jam 0x32 s)

/-- `JAM`, opcode 42 (R714). -/
def execJam42 (s : State) : Result := .next (jam 0x42 s)

/-- `JAM`, opcode 52 (R714). -/
def execJam52 (s : State) : Result := .next (jam 0x52 s)

/-- `JAM`, opcode 62 (R714). -/
def execJam62 (s : State) : Result := .next (jam 0x62 s)

/-- `JAM`, opcode 72 (R714). -/
def execJam72 (s : State) : Result := .next (jam 0x72 s)

/-- `JAM`, opcode 92 (R714). -/
def execJam92 (s : State) : Result := .next (jam 0x92 s)

/-- `JAM`, opcode B2 (R714). -/
def execJamB2 (s : State) : Result := .next (jam 0xB2 s)

/-- `JAM`, opcode D2 (R714). -/
def execJamD2 (s : State) : Result := .next (jam 0xD2 s)

/-- `JAM`, opcode F2 (R714). -/
def execJamF2 (s : State) : Result := .next (jam 0xF2 s)

/-- `SLO (z,X)`, opcode 03 (R720). -/
def execSloIzx (z : Byte) (s : State) : Result := .next (undocRmw 0x03 slo (.izx z) s)

/-- `SLO z`, opcode 07 (R720). -/
def execSloZp (z : Byte) (s : State) : Result := .next (undocRmw 0x07 slo (.zp z) s)

/-- `SLO a`, opcode 0F (R720). -/
def execSloAbs (a : Word) (s : State) : Result := .next (undocRmw 0x0F slo (.abs a) s)

/-- `SLO (z),Y`, opcode 13 (R720). -/
def execSloIzy (z : Byte) (s : State) : Result := .next (undocRmw 0x13 slo (.izy z) s)

/-- `SLO z,X`, opcode 17 (R720). -/
def execSloZpx (z : Byte) (s : State) : Result := .next (undocRmw 0x17 slo (.zpx z) s)

/-- `SLO a,Y`, opcode 1B (R720). -/
def execSloAby (a : Word) (s : State) : Result := .next (undocRmw 0x1B slo (.aby a) s)

/-- `SLO a,X`, opcode 1F (R720). -/
def execSloAbx (a : Word) (s : State) : Result := .next (undocRmw 0x1F slo (.abx a) s)

/-- `RLA (z,X)`, opcode 23 (R721). -/
def execRlaIzx (z : Byte) (s : State) : Result := .next (undocRmw 0x23 rla (.izx z) s)

/-- `RLA z`, opcode 27 (R721). -/
def execRlaZp (z : Byte) (s : State) : Result := .next (undocRmw 0x27 rla (.zp z) s)

/-- `RLA a`, opcode 2F (R721). -/
def execRlaAbs (a : Word) (s : State) : Result := .next (undocRmw 0x2F rla (.abs a) s)

/-- `RLA (z),Y`, opcode 33 (R721). -/
def execRlaIzy (z : Byte) (s : State) : Result := .next (undocRmw 0x33 rla (.izy z) s)

/-- `RLA z,X`, opcode 37 (R721). -/
def execRlaZpx (z : Byte) (s : State) : Result := .next (undocRmw 0x37 rla (.zpx z) s)

/-- `RLA a,Y`, opcode 3B (R721). -/
def execRlaAby (a : Word) (s : State) : Result := .next (undocRmw 0x3B rla (.aby a) s)

/-- `RLA a,X`, opcode 3F (R721). -/
def execRlaAbx (a : Word) (s : State) : Result := .next (undocRmw 0x3F rla (.abx a) s)

/-- `SRE (z,X)`, opcode 43 (R722). -/
def execSreIzx (z : Byte) (s : State) : Result := .next (undocRmw 0x43 sre (.izx z) s)

/-- `SRE z`, opcode 47 (R722). -/
def execSreZp (z : Byte) (s : State) : Result := .next (undocRmw 0x47 sre (.zp z) s)

/-- `SRE a`, opcode 4F (R722). -/
def execSreAbs (a : Word) (s : State) : Result := .next (undocRmw 0x4F sre (.abs a) s)

/-- `SRE (z),Y`, opcode 53 (R722). -/
def execSreIzy (z : Byte) (s : State) : Result := .next (undocRmw 0x53 sre (.izy z) s)

/-- `SRE z,X`, opcode 57 (R722). -/
def execSreZpx (z : Byte) (s : State) : Result := .next (undocRmw 0x57 sre (.zpx z) s)

/-- `SRE a,Y`, opcode 5B (R722). -/
def execSreAby (a : Word) (s : State) : Result := .next (undocRmw 0x5B sre (.aby a) s)

/-- `SRE a,X`, opcode 5F (R722). -/
def execSreAbx (a : Word) (s : State) : Result := .next (undocRmw 0x5F sre (.abx a) s)

/-- `RRA (z,X)`, opcode 63 (R723). -/
def execRraIzx (z : Byte) (s : State) : Result := .next (undocRmw 0x63 rra (.izx z) s)

/-- `RRA z`, opcode 67 (R723). -/
def execRraZp (z : Byte) (s : State) : Result := .next (undocRmw 0x67 rra (.zp z) s)

/-- `RRA a`, opcode 6F (R723). -/
def execRraAbs (a : Word) (s : State) : Result := .next (undocRmw 0x6F rra (.abs a) s)

/-- `RRA (z),Y`, opcode 73 (R723). -/
def execRraIzy (z : Byte) (s : State) : Result := .next (undocRmw 0x73 rra (.izy z) s)

/-- `RRA z,X`, opcode 77 (R723). -/
def execRraZpx (z : Byte) (s : State) : Result := .next (undocRmw 0x77 rra (.zpx z) s)

/-- `RRA a,Y`, opcode 7B (R723). -/
def execRraAby (a : Word) (s : State) : Result := .next (undocRmw 0x7B rra (.aby a) s)

/-- `RRA a,X`, opcode 7F (R723). -/
def execRraAbx (a : Word) (s : State) : Result := .next (undocRmw 0x7F rra (.abx a) s)

/-- `SAX (z,X)`, opcode 83 (R724). -/
def execSaxIzx (z : Byte) (s : State) : Result := .next (undocStore 0x83 (fun c => c.a &&& c.x) (.izx z) s)

/-- `SAX z`, opcode 87 (R724). -/
def execSaxZp (z : Byte) (s : State) : Result := .next (undocStore 0x87 (fun c => c.a &&& c.x) (.zp z) s)

/-- `SAX a`, opcode 8F (R724). -/
def execSaxAbs (a : Word) (s : State) : Result := .next (undocStore 0x8F (fun c => c.a &&& c.x) (.abs a) s)

/-- `SAX z,Y`, opcode 97 (R724). -/
def execSaxZpy (z : Byte) (s : State) : Result := .next (undocStore 0x97 (fun c => c.a &&& c.x) (.zpy z) s)

/-- `LAX (z,X)`, opcode A3 (R725). -/
def execLaxIzx (z : Byte) (s : State) : Result := .next (undocRead 0xA3 lax (.mem (.izx z)) s)

/-- `LAX z`, opcode A7 (R725). -/
def execLaxZp (z : Byte) (s : State) : Result := .next (undocRead 0xA7 lax (.mem (.zp z)) s)

/-- `LAX a`, opcode AF (R725). -/
def execLaxAbs (a : Word) (s : State) : Result := .next (undocRead 0xAF lax (.mem (.abs a)) s)

/-- `LAX (z),Y`, opcode B3 (R725). -/
def execLaxIzy (z : Byte) (s : State) : Result := .next (undocRead 0xB3 lax (.mem (.izy z)) s)

/-- `LAX z,Y`, opcode B7 (R725). -/
def execLaxZpy (z : Byte) (s : State) : Result := .next (undocRead 0xB7 lax (.mem (.zpy z)) s)

/-- `LAX a,Y`, opcode BF (R725). -/
def execLaxAby (a : Word) (s : State) : Result := .next (undocRead 0xBF lax (.mem (.aby a)) s)

/-- `DCP (z,X)`, opcode C3 (R726). -/
def execDcpIzx (z : Byte) (s : State) : Result := .next (undocRmw 0xC3 dcp (.izx z) s)

/-- `DCP z`, opcode C7 (R726). -/
def execDcpZp (z : Byte) (s : State) : Result := .next (undocRmw 0xC7 dcp (.zp z) s)

/-- `DCP a`, opcode CF (R726). -/
def execDcpAbs (a : Word) (s : State) : Result := .next (undocRmw 0xCF dcp (.abs a) s)

/-- `DCP (z),Y`, opcode D3 (R726). -/
def execDcpIzy (z : Byte) (s : State) : Result := .next (undocRmw 0xD3 dcp (.izy z) s)

/-- `DCP z,X`, opcode D7 (R726). -/
def execDcpZpx (z : Byte) (s : State) : Result := .next (undocRmw 0xD7 dcp (.zpx z) s)

/-- `DCP a,Y`, opcode DB (R726). -/
def execDcpAby (a : Word) (s : State) : Result := .next (undocRmw 0xDB dcp (.aby a) s)

/-- `DCP a,X`, opcode DF (R726). -/
def execDcpAbx (a : Word) (s : State) : Result := .next (undocRmw 0xDF dcp (.abx a) s)

/-- `ISC (z,X)`, opcode E3 (R727). -/
def execIscIzx (z : Byte) (s : State) : Result := .next (undocRmw 0xE3 isc (.izx z) s)

/-- `ISC z`, opcode E7 (R727). -/
def execIscZp (z : Byte) (s : State) : Result := .next (undocRmw 0xE7 isc (.zp z) s)

/-- `ISC a`, opcode EF (R727). -/
def execIscAbs (a : Word) (s : State) : Result := .next (undocRmw 0xEF isc (.abs a) s)

/-- `ISC (z),Y`, opcode F3 (R727). -/
def execIscIzy (z : Byte) (s : State) : Result := .next (undocRmw 0xF3 isc (.izy z) s)

/-- `ISC z,X`, opcode F7 (R727). -/
def execIscZpx (z : Byte) (s : State) : Result := .next (undocRmw 0xF7 isc (.zpx z) s)

/-- `ISC a,Y`, opcode FB (R727). -/
def execIscAby (a : Word) (s : State) : Result := .next (undocRmw 0xFB isc (.aby a) s)

/-- `ISC a,X`, opcode FF (R727). -/
def execIscAbx (a : Word) (s : State) : Result := .next (undocRmw 0xFF isc (.abx a) s)

/-- `ANC #m`, opcode 0B (R728). -/
def execAncImm0B (m : Byte) (s : State) : Result := .next (undocRead 0x0B anc (.imm m) s)

/-- `ANC #m`, opcode 2B (R728). -/
def execAncImm2B (m : Byte) (s : State) : Result := .next (undocRead 0x2B anc (.imm m) s)

/-- `ALR #m`, opcode 4B (R729). -/
def execAlrImm (m : Byte) (s : State) : Result := .next (undocRead 0x4B alr (.imm m) s)

/-- `ARR #m`, opcode 6B (R730). -/
def execArrImm (m : Byte) (s : State) : Result := .next (undocRead 0x6B arr (.imm m) s)

/-- `AXS #m`, opcode CB (R731). -/
def execAxsImm (m : Byte) (s : State) : Result := .next (undocRead 0xCB axs (.imm m) s)

/-- `USBC #m`, opcode EB (R732). -/
def execUsbcImm (m : Byte) (s : State) : Result := .next (undocRead 0xEB subC (.imm m) s)

/-- `NOP z`, opcode 04 (R733). -/
def execNopZp04 (z : Byte) (s : State) : Result := .next (undocRead 0x04 (fun c _ => c) (.mem (.zp z)) s)

/-- `NOP a`, opcode 0C (R733). -/
def execNopAbs (a : Word) (s : State) : Result := .next (undocRead 0x0C (fun c _ => c) (.mem (.abs a)) s)

/-- `NOP z,X`, opcode 14 (R733). -/
def execNopZpx14 (z : Byte) (s : State) : Result := .next (undocRead 0x14 (fun c _ => c) (.mem (.zpx z)) s)

/-- `NOP`, opcode 1A (R733). -/
def execNopImp1A (s : State) : Result := .next (undocNop 0x1A s)

/-- `NOP a,X`, opcode 1C (R733). -/
def execNopAbx1C (a : Word) (s : State) : Result := .next (undocRead 0x1C (fun c _ => c) (.mem (.abx a)) s)

/-- `NOP z,X`, opcode 34 (R733). -/
def execNopZpx34 (z : Byte) (s : State) : Result := .next (undocRead 0x34 (fun c _ => c) (.mem (.zpx z)) s)

/-- `NOP`, opcode 3A (R733). -/
def execNopImp3A (s : State) : Result := .next (undocNop 0x3A s)

/-- `NOP a,X`, opcode 3C (R733). -/
def execNopAbx3C (a : Word) (s : State) : Result := .next (undocRead 0x3C (fun c _ => c) (.mem (.abx a)) s)

/-- `NOP z`, opcode 44 (R733). -/
def execNopZp44 (z : Byte) (s : State) : Result := .next (undocRead 0x44 (fun c _ => c) (.mem (.zp z)) s)

/-- `NOP z,X`, opcode 54 (R733). -/
def execNopZpx54 (z : Byte) (s : State) : Result := .next (undocRead 0x54 (fun c _ => c) (.mem (.zpx z)) s)

/-- `NOP`, opcode 5A (R733). -/
def execNopImp5A (s : State) : Result := .next (undocNop 0x5A s)

/-- `NOP a,X`, opcode 5C (R733). -/
def execNopAbx5C (a : Word) (s : State) : Result := .next (undocRead 0x5C (fun c _ => c) (.mem (.abx a)) s)

/-- `NOP z`, opcode 64 (R733). -/
def execNopZp64 (z : Byte) (s : State) : Result := .next (undocRead 0x64 (fun c _ => c) (.mem (.zp z)) s)

/-- `NOP z,X`, opcode 74 (R733). -/
def execNopZpx74 (z : Byte) (s : State) : Result := .next (undocRead 0x74 (fun c _ => c) (.mem (.zpx z)) s)

/-- `NOP`, opcode 7A (R733). -/
def execNopImp7A (s : State) : Result := .next (undocNop 0x7A s)

/-- `NOP a,X`, opcode 7C (R733). -/
def execNopAbx7C (a : Word) (s : State) : Result := .next (undocRead 0x7C (fun c _ => c) (.mem (.abx a)) s)

/-- `NOP #m`, opcode 80 (R733). -/
def execNopImm80 (m : Byte) (s : State) : Result := .next (undocRead 0x80 (fun c _ => c) (.imm m) s)

/-- `NOP #m`, opcode 82 (R733). -/
def execNopImm82 (m : Byte) (s : State) : Result := .next (undocRead 0x82 (fun c _ => c) (.imm m) s)

/-- `NOP #m`, opcode 89 (R733). -/
def execNopImm89 (m : Byte) (s : State) : Result := .next (undocRead 0x89 (fun c _ => c) (.imm m) s)

/-- `NOP #m`, opcode C2 (R733). -/
def execNopImmC2 (m : Byte) (s : State) : Result := .next (undocRead 0xC2 (fun c _ => c) (.imm m) s)

/-- `NOP z,X`, opcode D4 (R733). -/
def execNopZpxD4 (z : Byte) (s : State) : Result := .next (undocRead 0xD4 (fun c _ => c) (.mem (.zpx z)) s)

/-- `NOP`, opcode DA (R733). -/
def execNopImpDA (s : State) : Result := .next (undocNop 0xDA s)

/-- `NOP a,X`, opcode DC (R733). -/
def execNopAbxDC (a : Word) (s : State) : Result := .next (undocRead 0xDC (fun c _ => c) (.mem (.abx a)) s)

/-- `NOP #m`, opcode E2 (R733). -/
def execNopImmE2 (m : Byte) (s : State) : Result := .next (undocRead 0xE2 (fun c _ => c) (.imm m) s)

/-- `NOP z,X`, opcode F4 (R733). -/
def execNopZpxF4 (z : Byte) (s : State) : Result := .next (undocRead 0xF4 (fun c _ => c) (.mem (.zpx z)) s)

/-- `NOP`, opcode FA (R733). -/
def execNopImpFA (s : State) : Result := .next (undocNop 0xFA s)

/-- `NOP a,X`, opcode FC (R733). -/
def execNopAbxFC (a : Word) (s : State) : Result := .next (undocRead 0xFC (fun c _ => c) (.mem (.abx a)) s)

/-- `LAS a,Y`, opcode BB (R734). -/
def execLasAby (a : Word) (s : State) : Result := .next (undocRead 0xBB las (.mem (.aby a)) s)

/-- `ANE #m`, opcode 8B (R735). -/
def execAneImm (_m : Byte) (s : State) : Result := .next (unstable 0x8B 2 2 s)

/-- `SHA (z),Y`, opcode 93 (R735). -/
def execShaIzy (z : Byte) (s : State) : Result := .next (unstable 0x93 2 (writeCycles (.izy z)) s)

/-- `TAS a,Y`, opcode 9B (R735). -/
def execTasAby (a : Word) (s : State) : Result := .next (unstable 0x9B 3 (writeCycles (.aby a)) s)

/-- `SHY a,X`, opcode 9C (R735). -/
def execShyAbx (a : Word) (s : State) : Result := .next (unstable 0x9C 3 (writeCycles (.abx a)) s)

/-- `SHX a,Y`, opcode 9E (R735). -/
def execShxAby (a : Word) (s : State) : Result := .next (unstable 0x9E 3 (writeCycles (.aby a)) s)

/-- `SHA a,Y`, opcode 9F (R735). -/
def execShaAby (a : Word) (s : State) : Result := .next (unstable 0x9F 3 (writeCycles (.aby a)) s)

/-- `LXA #m`, opcode AB (R735). -/
def execLxaImm (_m : Byte) (s : State) : Result := .next (unstable 0xAB 2 2 s)

end Sys2Proof.Machine
end

