-- ==== Sys2Proof/Machine/Loader.lean ====
section
/-! DEFINITION. The cartridge loader (21_cartridge_mappers.md R300–R312): from the bytes of an iNES or NES 2.0 image to the
Cartridge record. -/

namespace Sys2Proof.Machine

/-- The loader's errors (R301, R303, R307). -/
inductive LoadError where
  | formatError
  | invalidHeaderError
  | truncatedError
deriving DecidableEq, Repr

/-- What the 16 header bytes say (R302–R309). -/
structure Header where
  nes2        : Bool
  prgUnits    : Nat
  chrUnits    : Nat
  mirroring   : Mirroring
  battery     : Bool
  trainer     : Bool
  mapperNum   : Nat
  submapperId : Option (BitVec 4)
  region      : Region
  /-- Byte 8, which iNES reads as PRG RAM units (R309). -/
  byte8       : Byte
  /-- Bytes 10 and 11, the RAM size codes of NES 2.0 (R308). -/
  byte10      : Byte
  byte11      : Byte
deriving DecidableEq, Repr

/-- Header byte i. -/
def headerByte (bs : List Byte) (i : Nat) : Byte := bs.getD i 0

/-- R303: a unit count with its NES 2.0 high nibble. -/
def unitCount (nes2 : Bool) (low : Byte) (high : BitVec 4) : Nat := low.toNat + (if nes2 then high.toNat * 0x100 else 0)

/-- R302–R306: the fields of a header. -/
def headerOf (bs : List Byte) : Header :=
  let b := headerByte bs
  let nes2 := (b 7).getLsbD 3
  { nes2 := nes2
    prgUnits := unitCount nes2 (b 4) ((b 9).extractLsb' 0 4)
    chrUnits := unitCount nes2 (b 5) ((b 9).extractLsb' 4 4)
    mirroring := if (b 6).getLsbD 3 then .fourScreen else if (b 6).getLsbD 0 then .vertical else .horizontal
    battery := (b 6).getLsbD 1
    trainer := (b 6).getLsbD 2
    mapperNum := ((b 6).extractLsb' 4 4).toNat + ((b 7).extractLsb' 4 4).toNat * 0x10
      + (if nes2 then ((b 8).extractLsb' 0 4).toNat * 0x100 else 0)
    submapperId := if nes2 then some ((b 8).extractLsb' 4 4) else none
    region := if (if nes2 then b 12 else b 9).getLsbD 0 then .pal else .ntsc
    byte8 := b 8
    byte10 := b 10
    byte11 := b 11 }

/-- R308: the size a 4-bit code stands for. -/
def ramSizeOf (code : BitVec 4) : Nat := if code = 0 then 0 else 2 ^ (code.toNat - 1) * 128

/-- R312: the mapper's name; 34 is NINA-001 with CHR ROM and BNROM without. -/
def mapperIdOf (num : Nat) (hasChrRom : Bool) : MapperId :=
  match num with
  | 0 => .nrom
  | 1 => .mmc1
  | 2 => .unrom
  | 3 => .cnrom
  | 4 => .mmc3
  | 7 => .aorom
  | 11 => .colorDreams
  | 34 => if hasChrRom then .nina001 else .bnrom
  | n => .other n

/-- R308, R309: PRG RAM size and its battery-backed part. -/
def prgRamSizes (h : Header) : Nat × Nat :=
  if h.nes2 then
    (ramSizeOf (h.byte10.extractLsb' 0 4) + ramSizeOf (h.byte10.extractLsb' 4 4), ramSizeOf (h.byte10.extractLsb' 4 4))
  else
    let size := (if h.byte8 = 0 then 1 else h.byte8.toNat) * 0x2000
    (size, if h.battery then size else 0)

/-- R308, R309, D23: CHR RAM size and its battery-backed part; 8 KiB where there is no CHR ROM and no size given. -/
def chrRamSizes (h : Header) : Nat × Nat :=
  if h.nes2 then
    let size := ramSizeOf (h.byte11.extractLsb' 0 4) + ramSizeOf (h.byte11.extractLsb' 4 4)
    (if h.chrUnits = 0 ∧ size = 0 then 0x2000 else size, ramSizeOf (h.byte11.extractLsb' 4 4))
  else (if h.chrUnits = 0 then 0x2000 else 0, 0)

/-- R307: where PRG data starts: after the header and the trainer, which is not loaded (D50). -/
def prgOffset (h : Header) : Nat := 16 + (if h.trainer then 512 else 0)

/-- R307: the least length of the image. -/
def imageLength (h : Header) : Nat := prgOffset h + h.prgUnits * 0x4000 + h.chrUnits * 0x2000

/-- A ROM of `n` bytes taken from the image at an offset. -/
def romAt (bs : List Byte) (off n : Nat) : Rom := { size := n, bytes := sparseOfList 0 ((bs.drop off).take n) }

/-- The Cartridge record of a valid image (R300). -/
def cartridgeOf (h : Header) (bs : List Byte) : Cartridge where
  mapperId := mapperIdOf h.mapperNum (decide (0 < h.chrUnits))
  mapperNum := h.mapperNum
  submapperId := h.submapperId
  mirroring := h.mirroring
  region := h.region
  prgRom := romAt bs (prgOffset h) (h.prgUnits * 0x4000)
  prgRamSize := (prgRamSizes h).1
  prgRamSizeBattery := (prgRamSizes h).2
  chrRom := if 0 < h.chrUnits then some (romAt bs (prgOffset h + h.prgUnits * 0x4000) (h.chrUnits * 0x2000)) else none
  chrRamSize := (chrRamSizes h).1
  chrRamSizeBattery := (chrRamSizes h).2

/-- `parse` (R301), with the errors in the order of R311 and D57. -/
def parse (bs : List Byte) : Except LoadError Cartridge :=
  if bs.take 4 ≠ [0x4E, 0x45, 0x53, 0x1A] then .error .formatError
  else if bs.length < 16 then .error .truncatedError
  else
    let h := headerOf bs
    if h.prgUnits = 0 then .error .invalidHeaderError
    else if bs.length < imageLength h then .error .truncatedError
    else .ok (cartridgeOf h bs)

/-- The mapper's name (R300, R312); an id outside the table is its decimal string (R310). -/
def MapperId.name : MapperId → String
  | .nrom => "NROM"
  | .mmc1 => "MMC1"
  | .unrom => "UNROM"
  | .cnrom => "CNROM"
  | .mmc3 => "MMC3"
  | .aorom => "AOROM"
  | .colorDreams => "ColorDreams"
  | .bnrom => "BNROM"
  | .nina001 => "NINA-001"
  | .other n => toString n

end Sys2Proof.Machine
end

