-- ==== Sys2Proof/Machine/HostOps.lean ====
section
/-! DEFINITION. Host operations other than step (60_exceptions.md R852–R854, 70_reset_and_hazards.md R1100, R1101), and the
placing of an instruction where the machine fetches it. renderFrame is in Machine/Frame.lean. -/

namespace Sys2Proof.Machine

/-- The entries below an index. -/
def keepBelow {w : Nat} (n : Nat) (m : Sparse w) : Sparse w := m.filter (fun e => decide (e.1 < n))

/-- The CPU registers of `power()` before its RESET entry (R1100 step 2, D4). -/
def powerCpu : Cpu where
  a := 0
  x := 0
  y := 0
  s := 0
  pc := 0
  n := false
  v := false
  d := false
  i := false
  z := false
  c := false
  halted := false
  fault := none

/-- R1100 steps 1 to 4: everything but the RESET entry. -/
def powerDevices (s : State) : State :=
  { s with
    cpu := powerCpu
    pending := { reset := false, nmi := false, irqApu := false, irqDmc := false, irqMapper := false }
    ram := []
    oamDma := none
    strobe := false
    mapper := resetMapper s.cart
    prgRam := keepBelow s.cart.prgRamSizeBattery s.prgRam
    chrRam := keepBelow s.cart.chrRamSizeBattery s.chrRam
    ppu := powerPpu s.params
    apu := powerApu
    palPhase := 0
    cycles := 0 }

/-- `power()` (R1100): the RESET entry at its end takes no time (D61). -/
def power (s : State) : State :=
  let t := powerDevices s
  let l := cpuRead t 0xFFFC
  let h := cpuRead l.2 0xFFFD
  h.2.setCpu { h.2.cpu with s := h.2.cpu.s - 3, i := true, pc := wordOf l.1 h.1 }

/-- `reset()` (R1101): the next step makes the RESET entry. -/
def assertReset (s : State) : State := { s with pending := { s.pending with reset := true } }

/-- `setRegion` (60_exceptions.md R852). -/
def setRegion (r : Option Region) (s : State) : State := { s with regionOverride := r }

/-- The host's error for a device that a port does not take (60_exceptions.md R852). -/
inductive InputError where
  | inputDeviceError
deriving DecidableEq, Repr

/-- `setInputDevice` (60_exceptions.md R852, D21): the port's data are the draw `Config.inputRead` whatever device the host
connects, so the machine's state is unchanged (log 24). -/
def setInputDevice (port : Bool) (device : Nat) (s : State) : Except InputError State :=
  if Config.inputDeviceFits port device then .ok s else .error .inputDeviceError

/-- No cartridge: no ROM, no RAM. -/
def noCartridge : Cartridge where
  mapperId := .nrom
  mapperNum := 0
  submapperId := none
  mirroring := .horizontal
  region := .ntsc
  prgRom := { size := 0, bytes := [] }
  prgRamSize := 0
  prgRamSizeBattery := 0
  chrRom := none
  chrRamSize := 0
  chrRamSizeBattery := 0

/-- The state no-cartridge (60_exceptions.md R853, R854). -/
def removeCartridge (s : State) : State :=
  { s with present := false, cart := noCartridge, mapper := resetMapper noCartridge, prgRam := [], chrRam := [] }

/-- `setCartridge` (60_exceptions.md R854): the old mapper goes first; a cartridge whose mapper cannot be constructed leaves
none inserted. -/
def setCartridge (c : Option Cartridge) (s : State) : State × Option ConstructionError :=
  match c with
  | none => (removeCartridge s, none)
  | some c =>
    match c.check with
    | .error e => (removeCartridge s, some e)
    | .ok _ => (power { removeCartridge s with present := true, cart := c, mapper := resetMapper c }, none)

/-- `getNVRAM` (21_cartridge_mappers.md R314, D59). -/
def getNvram (s : State) : Option (List Byte) :=
  if 0 < s.cart.prgRamSizeBattery then some (sparseSlice s.cart.prgRamSizeBattery 0 s.prgRam)
  else if 0 < s.cart.chrRamSizeBattery then some (sparseSlice s.cart.chrRamSizeBattery 0 s.chrRam)
  else none

/-- The first n cells replaced by a list, cut or padded with 0 to n (D59). -/
def overwrite (n : Nat) (bs : List Byte) (m : Mem) : Mem :=
  sparseOfList 0 (bs.take n) ++ m.filter (fun e => decide (n ≤ e.1))

/-- `setNVRAM` (21_cartridge_mappers.md R314, D59). -/
def setNvram (bs : List Byte) (s : State) : State :=
  if 0 < s.cart.prgRamSizeBattery then { s with prgRam := overwrite s.cart.prgRamSizeBattery bs s.prgRam }
  else if 0 < s.cart.chrRamSizeBattery then { s with chrRam := overwrite s.cart.chrRamSizeBattery bs s.chrRam }
  else s

/-! ## Placing an instruction -/

/-- A fetch at the address reads a stored byte. -/
def placeable (s : State) (a : Word) : Bool :=
  let n := a.toNat
  if n < 0x2000 then true
  else if n < 0x6000 then false
  else if n < 0x8000 then s.mapper.prgRamOn && decide (0 < s.cart.prgRamSize)
  else decide (prgRomOffset s.mapper n < s.cart.prgRom.size)

/-- The byte stored where a fetch at the address reads: RAM, PRG RAM, or the cartridge's ROM image. -/
def placeByte (s : State) (a : Word) (v : Byte) : State :=
  let n := a.toNat
  if n < 0x2000 then { s with ram := sparseWrite s.ram (n % 0x800) v }
  else if n < 0x8000 then { s with prgRam := sparseWrite s.prgRam (prgRamOffset s.cart s.mapper n) v }
  else
    let rom := { s.cart.prgRom with bytes := sparseWrite s.cart.prgRom.bytes (prgRomOffset s.mapper n) v }
    { s with cart := { s.cart with prgRom := rom } }

/-- Bytes placed at consecutive addresses. -/
def placeBytes : List Byte → Word → State → State
  | [], _, s => s
  | b :: bs, a, s => placeBytes bs (a + 1) (placeByte s a b)

/-- Nothing stands between the state and its next fetch: no fault, a cartridge, not halted, no entry due. -/
def readyToFetch (s : State) : State :=
  { s with
    cpu := { s.cpu with fault := none, halted := false }
    present := true
    pending := { reset := false, nmi := false, irqApu := false, irqDmc := false, irqMapper := false } }

/-- PC kept if the instruction's three bytes can be placed there, else 0x0200 in RAM. -/
def placeablePc (s : State) : Word :=
  if placeable s s.cpu.pc && placeable s (s.cpu.pc + 1) && placeable s (s.cpu.pc + 2) then s.cpu.pc else 0x0200

end Sys2Proof.Machine
end

