-- ==== Sys2Proof/Machine/Step.lean ====
section
/-! DEFINITION. One step (60_exceptions.md R800): the interrupt check, exactly one instruction, the DMA stolen in it. -/

namespace Sys2Proof.Machine

/-- Parts (2) and (3) of R800: the instruction at PC, then the step's DMA. -/
def runInstr (s : State) : Host.Outcome State Fault Refusal :=
  match exec (fetchInstr s) s with
  | .next t => .next (finishStep t)
  | .fault r => .fault r
  | .refused r => .refused r

/-- R800 with the cycle count at 0: an idle cycle of a halted core, or the interrupt check and one instruction. -/
def stepRunning (s : State) : Host.Outcome State Fault Refusal :=
  if idles s then .next (tick s) else runInstr (interruptCheck s)

/-- `step()` (R800): refused in the fault state (R830) and with no cartridge (R853). -/
def step (s : State) : Host.Outcome State Fault Refusal :=
  match s.cpu.fault with
  | some (op, a) => .refused (.faulted op a)
  | none => if s.present then stepRunning { s with cycles := 0 } else .refused .noCartridge

/-- The state with the instruction of bits w placed where step fetches next, and nothing in the way of the fetch (log 1). -/
def State.withFetchWord (s : State) (nbits w : Nat) : State :=
  let t := readyToFetch s
  let a := placeablePc t
  placeBytes (decodeTableWord.tableBytes nbits w) a (t.setPc a)

end Sys2Proof.Machine
end

