-- ==== Sys2Proof/Safety.lean ====
section
/-! DEFINITION. The terms claims use: when a step is safe, what a CPU address holds, what an instruction may leave
unchanged, the cycle table of spec/opcode_table.json, and the invariants of the machine. -/

namespace Sys2Proof.Machine

/-! ## Safe runs -/

/-- The next step is not refused: a cartridge is inserted and the core has not raised IllegalOpcode (60_exceptions.md R800,
R853). -/
def State.canStep (s : State) : Bool := s.present && s.cpu.fault.isNone

/-- The next step makes no interrupt entry and no idle cycle (60_exceptions.md R802). -/
def State.quiet (s : State) : Bool :=
  !s.pending.reset && !s.cpu.halted && !s.pending.nmi && !(irqLine s.pending && !s.cpu.i)

/-! ## What an address holds -/

/-- The byte of memory a CPU address shows, read without an effect: RAM, PRG RAM or PRG ROM through the banking. None for
device registers and for addresses that nothing answers (20_memory.md R202). -/
def memByte (s : State) (a : Word) : Option Byte :=
  let n := a.toNat
  if n < 0x2000 then some (sparseRead s.ram (n % 0x800))
  else if n < 0x6000 then none
  else if n < 0x8000 then
    if s.mapper.prgRamOn = true ∧ 0 < s.cart.prgRamSize then
      some (sparseRead s.prgRam (prgRamOffset s.cart s.mapper n))
    else none
  else if prgRomOffset s.mapper n < s.cart.prgRom.size then
    some (sparseRead s.cart.prgRom.bytes (prgRomOffset s.mapper n))
  else none

/-- The RAM cell of a stack pointer value (10_state.md R103). -/
def stackCell (v : Byte) : Nat := 0x100 + v.toNat

/-- The CPU addresses of a chip's registers (21_cartridge_mappers.md R330, R341, R350–R355, R361): a write to any other address
reaches no chip. -/
def Chip.registerAt (c : Chip) (a : Word) : Bool :=
  match c with
  | .nrom => false
  | .nina001 => decide (a = 0x7FFD) || decide (a = 0x7FFE) || decide (a = 0x7FFF)
  | .mmc1 _ | .unrom | .cnrom | .mmc3 _ | .aorom | .colorDreams | .bnrom => decide (0x8000 ≤ a.toNat)

/-- The banks that the k windows of a mapping of bank b show (21_cartridge_mappers.md R320, R321, D58): `unit` is a window's bytes
and `size` the memory's. -/
def shownBanks (size unit k b : Nat) : List Nat :=
  let mask := fun n => if n ≤ size then size / n - 1 else 0
  (List.range k).map (fun i => ((b &&& mask (k * unit)) * k + i) &&& mask unit)

/-- Two mappers bank alike, and their chips' registers stand at the same addresses; a chip's counters and register values may
differ. -/
structure SameBanking (m n : Mapper) : Prop where
  prgMap    : n.prgMap = m.prgMap
  chrMap    : n.chrMap = m.chrMap
  prgRamMap : n.prgRamMap = m.prgRamMap
  prgRamOn  : n.prgRamOn = m.prgRamOn
  prgRamWE  : n.prgRamWE = m.prgRamWE
  mirroring : n.mirroring = m.mirroring
  registers : ∀ a, n.chip.registerAt a = m.chip.registerAt a

/-- What no instruction, no entry and no passing of time ever changes. -/
structure SameBoard (s t : State) : Prop where
  cart           : t.cart = s.cart
  params         : t.params = s.params
  present        : t.present = s.present
  regionOverride : t.regionOverride = s.regionOverride

/-- The PPU's memories and CHR RAM are unchanged. -/
structure SameVideo (s t : State) : Prop where
  chrRam  : t.chrRam = s.chrRam
  oam     : t.ppu.oam = s.ppu.oam
  palette : t.ppu.palette = s.ppu.palette
  ntram   : t.ppu.ntram = s.ppu.ntram

/-- Nothing is written: every memory, the banking, the strobe and the standing DMA request are unchanged. What is left to
change is what time and register reads change: device counters, flags and latches, the pixels output and the draws. -/
structure SameMemory (s t : State) : Prop where
  board   : SameBoard s t
  video   : SameVideo s t
  banking : SameBanking s.mapper t.mapper
  ram     : t.ram = s.ram
  prgRam  : t.prgRam = s.prgRam
  strobe  : t.strobe = s.strobe
  oamDma  : t.oamDma = s.oamDma

/-- As `SameMemory`, but for RAM: of RAM nothing is said. -/
structure SameButRam (s t : State) : Prop where
  board   : SameBoard s t
  video   : SameVideo s t
  banking : SameBanking s.mapper t.mapper
  prgRam  : t.prgRam = s.prgRam
  strobe  : t.strobe = s.strobe
  oamDma  : t.oamDma = s.oamDma

/-- The PPU register addresses 0x2000–0x3FFF, writes to which may reach PPU memory. -/
def isPpuRegister (a : Word) : Bool := decide (0x2000 ≤ a.toNat) && decide (a.toNat < 0x4000)

/-- What a byte stored at CPU address a leaves unchanged: every cell of RAM and of PRG RAM but the one that a names, PPU
memory unless a is a PPU register, the board always; the banking unless a is a register of the mapper's chip. -/
structure SameButStored (a : Word) (s t : State) : Prop where
  board   : SameBoard s t
  video   : isPpuRegister a = false → SameVideo s t
  banking : s.mapper.chip.registerAt a = false → SameBanking s.mapper t.mapper
  ram     : ∀ k, ¬(a.toNat < 0x2000 ∧ k = a.toNat % 0x800) → sparseRead t.ram k = sparseRead s.ram k
  prgRam  : ∀ k, ¬(0x6000 ≤ a.toNat ∧ a.toNat < 0x8000 ∧ k = prgRamOffset s.cart s.mapper a.toNat) →
    sparseRead t.prgRam k = sparseRead s.prgRam k
  strobe  : a ≠ 0x4016 → t.strobe = s.strobe
  oamDma  : a ≠ 0x4014 → t.oamDma = s.oamDma

/-! ## Encodings and cycles -/

/-- The operand forms with a source byte or an effective address (41_addressing_load_store.md R503–R511), without their
operand bytes. -/
inductive Mode where
  | imm
  | zp
  | zpx
  | zpy
  | abs
  | abx
  | aby
  | izx
  | izy
deriving DecidableEq, Repr

/-- The mode of an addressing form. -/
def modeOf : Addressing → Mode
  | .zp _ => .zp
  | .zpx _ => .zpx
  | .zpy _ => .zpy
  | .abs _ => .abs
  | .abx _ => .abx
  | .aby _ => .aby
  | .izx _ => .izx
  | .izy _ => .izy

/-- The mode of a source operand. -/
def sourceMode : Source → Mode
  | .imm _ => .imm
  | .mem ea => modeOf ea

/-- Instruction bytes of a source operand's form (30_encoding.md R400). -/
def sourceBytes : Source → Nat
  | .imm _ => 2
  | .mem ea => addressingBytes ea

/-- Cycles of a read instruction (70_reset_and_hazards.md R1120). -/
def sourceCycles (src : Source) (s : State) : Nat :=
  match src with
  | .imm _ => 2
  | .mem ea => readCycles ea s

/-- The effective address of each mode (41_addressing_load_store.md R504–R511), a pointer being read from RAM. -/
def effectiveAddress (m : Addressing) (s : State) : Word :=
  match m with
  | .zp z => zeroPage z
  | .zpx z => zeroPage (z + s.cpu.x)
  | .zpy z => zeroPage (z + s.cpu.y)
  | .abs a => a
  | .abx a => a + s.cpu.x.setWidth 16
  | .aby a => a + s.cpu.y.setWidth 16
  | .izx z => wordOf (sparseRead s.ram (z + s.cpu.x).toNat) (sparseRead s.ram (z + s.cpu.x + 1).toNat)
  | .izy z => wordOf (sparseRead s.ram z.toNat) (sparseRead s.ram (z + 1).toNat) + s.cpu.y.setWidth 16

/-- spec/opcode_table.json, field cycles, opcode rows 0x to Fx; 0 where the table gives none (JAM). -/
def cycleRows : List (List Nat) :=
  [[7, 6, 0, 8, 3, 3, 5, 5, 3, 2, 2, 2, 4, 4, 6, 6],
   [2, 5, 0, 8, 4, 4, 6, 6, 2, 4, 2, 7, 4, 4, 7, 7],
   [6, 6, 0, 8, 3, 3, 5, 5, 4, 2, 2, 2, 4, 4, 6, 6],
   [2, 5, 0, 8, 4, 4, 6, 6, 2, 4, 2, 7, 4, 4, 7, 7],
   [6, 6, 0, 8, 3, 3, 5, 5, 3, 2, 2, 2, 3, 4, 6, 6],
   [2, 5, 0, 8, 4, 4, 6, 6, 2, 4, 2, 7, 4, 4, 7, 7],
   [6, 6, 0, 8, 3, 3, 5, 5, 4, 2, 2, 2, 5, 4, 6, 6],
   [2, 5, 0, 8, 4, 4, 6, 6, 2, 4, 2, 7, 4, 4, 7, 7],
   [2, 6, 2, 6, 3, 3, 3, 3, 2, 2, 2, 2, 4, 4, 4, 4],
   [2, 6, 0, 6, 4, 4, 4, 4, 2, 5, 2, 5, 5, 5, 5, 5],
   [2, 6, 2, 6, 3, 3, 3, 3, 2, 2, 2, 2, 4, 4, 4, 4],
   [2, 5, 0, 5, 4, 4, 4, 4, 2, 4, 2, 4, 4, 4, 4, 4],
   [2, 6, 2, 8, 3, 3, 5, 5, 2, 2, 2, 2, 4, 4, 6, 6],
   [2, 5, 0, 8, 4, 4, 6, 6, 2, 4, 2, 7, 4, 4, 7, 7],
   [2, 6, 2, 8, 3, 3, 5, 5, 2, 2, 2, 2, 4, 4, 6, 6],
   [2, 5, 0, 8, 4, 4, 6, 6, 2, 4, 2, 7, 4, 4, 7, 7]]

/-- The table's cycle count of an opcode byte. -/
def tableCycles (op : Byte) : Nat := (cycleRows.getD (op.toNat / 16) []).getD (op.toNat % 16) 0

/-- The rows of spec/opcode_table.json with "+1 if the indexed address crosses a page", by low and high nibble. -/
def pagePenalty (op : Byte) : Bool :=
  let hi := op.toNat / 16
  let lo := op.toNat % 16
  if lo = 0x1 ∨ lo = 0x9 ∨ lo = 0xD then decide (hi % 2 = 1) && decide (hi ≠ 9)
  else if lo = 0xC then decide (hi % 2 = 1) && decide (hi ≠ 9)
  else if lo = 0x3 ∨ lo = 0xB ∨ lo = 0xE ∨ lo = 0xF then decide (hi = 0xB)
  else false

/-- Whether a branch with the flags of s is taken (45_control.md R651–R658); none for another instruction. -/
def branchTaken (i : Instr) (c : Cpu) : Option (Byte × Bool) :=
  match i with
  | .bcc off => some (off, !c.c)
  | .bcs off => some (off, c.c)
  | .beq off => some (off, c.z)
  | .bne off => some (off, !c.z)
  | .bmi off => some (off, c.n)
  | .bpl off => some (off, !c.n)
  | .bvc off => some (off, !c.v)
  | .bvs off => some (off, c.v)
  | _ => none

/-- The cycles an instruction takes (70_reset_and_hazards.md R1120): its row of the table, one more for an indexed read that
crosses a page, one more for a taken branch and another if its target is in another page than the next instruction. -/
def instrCycles (i : Instr) (s : State) : Nat :=
  tableCycles i.opcode
    + (match i.addressing with
      | some m => if pagePenalty i.opcode && crossOf m s then 1 else 0
      | none => 0)
    + (match branchTaken i s.cpu with
      | some (off, true) =>
        if hiByte (s.cpu.pc + 2) = hiByte (s.cpu.pc + 2 + off.signExtend 16) then 1 else 2
      | _ => 0)

/-- The operand of a read instruction (41_addressing_load_store.md R514): the immediate byte, or what `CpuRead` gives at the
effective address in the state after the mode's own accesses. -/
def operandByte (src : Source) (s : State) : Byte :=
  match src with
  | .imm m => m
  | .mem ea => (cpuRead (addressOf .read ea s).2 (effectiveAddress ea s)).1

/-- The byte a read-modify-write instruction reads, and the state before its last cycle: the read of the effective address
and the dummy write of the byte unmodified (70_reset_and_hazards.md R1136). -/
def rmwBus (ea : Addressing) (s : State) : Byte × State :=
  let p := addressOf .rmw ea s
  let r := cycleRead p.2 (effectiveAddress ea s)
  (r.1, dummyWrite r.2 (effectiveAddress ea s) r.1)

/-- The bus of a one-byte register instruction: the opcode fetch and a dummy read of the next byte (R1131). The registers are
those of s. -/
def impliedBus (s : State) : State := dummyRead (cycleRead s s.cpu.pc).2 (s.cpu.pc + 1)

/-- The instruction stores a byte at its effective address. -/
def writesMemory (i : Instr) : Bool :=
  match i.mnemonic with
  | .sta | .stx | .sty | .inc | .dec | .sax | .slo | .rla | .sre | .rra | .dcp | .isc => true
  | .asl | .lsr | .rol | .ror => i.addressing.isSome
  | _ => false

/-- How many bytes the instruction pushes (42_transfer_stack.md R560). -/
def pushes (i : Instr) : Nat :=
  match i.mnemonic with
  | .pha | .php => 1
  | .jsr => 2
  | .brk => 3
  | _ => 0

/-- The opcodes of 47_undocumented.md R735. -/
def isUnstable (i : Instr) : Bool :=
  match i.mnemonic with
  | .ane | .lxa | .sha | .tas | .shy | .shx => true
  | _ => false

/-- What an entry does to the machine (60_exceptions.md R810, 46_system.md R680): the return address, high byte first, and the
status byte with the given B are pushed, I is set, and PC is the vector's bytes l and h. Seven cycles. -/
structure Entered (b : Bool) (ret : Word) (l h : Byte) (s t : State) : Prop where
  cpu    : t.cpu = { s.cpu with s := s.cpu.s - 3, i := true, pc := wordOf l h }
  ram    : ∀ k, sparseRead t.ram k =
    if k = stackCell s.cpu.s then hiByte ret
    else if k = stackCell (s.cpu.s - 1) then loByte ret
    else if k = stackCell (s.cpu.s - 2) then packP b s.cpu
    else sparseRead s.ram k
  memory : SameButRam s t
  cycles : t.cycles = s.cycles + 7

/-! ## How an instruction completes -/

/-- Instruction i answers a next state in k cycles: the registers are c but for PC, which has passed the n bytes, and nothing
is written. -/
def Completes (i : Instr) (s : State) (n k : Nat) (c : Cpu) : Prop :=
  ∃ t, exec i s = .next t ∧ t.cpu = { c with pc := s.cpu.pc + BitVec.ofNat 16 n } ∧ SameMemory s t
    ∧ t.cycles = s.cycles + k

/-- A read instruction answers a next state: its bus accesses are those of the source's mode and one read of the operand (41
R514), in the cycles of R1120; the registers are c but for PC, which has passed the instruction. -/
def ReadCompletes (i : Instr) (src : Source) (s : State) (c : Cpu) : Prop :=
  ∃ t, exec i s = .next t
    ∧ t = (readOperand src s).2.setCpu { c with pc := s.cpu.pc + BitVec.ofNat 16 (sourceBytes src) }
    ∧ t.cycles = s.cycles + sourceCycles src s

/-- A store answers a next state: byte v is written once at the effective address, after the mode's own accesses; no register
but PC changes. -/
def StoreCompletes (i : Instr) (ea : Addressing) (s : State) (v : Byte) : Prop :=
  ∃ t, exec i s = .next t
    ∧ t = cycleWrite (addressOf .write ea s).2 (effectiveAddress ea s) v
    ∧ t.cpu = { s.cpu with pc := s.cpu.pc + BitVec.ofNat 16 (addressingBytes ea) }
    ∧ t.cycles = s.cycles + writeCycles ea
    ∧ ((effectiveAddress ea s).toNat < 0x2000 → memByte t (effectiveAddress ea s) = some v)

/-- A read-modify-write instruction answers a next state: after the read and the dummy write (`rmwBus`), byte r is written at
the effective address; the registers are c but for PC. -/
def RmwCompletes (i : Instr) (ea : Addressing) (s : State) (r : Byte) (c : Cpu) : Prop :=
  ∃ t, exec i s = .next t
    ∧ t = cycleWrite
        ((rmwBus ea s).2.setCpu { c with pc := s.cpu.pc + BitVec.ofNat 16 (addressingBytes ea) })
        (effectiveAddress ea s) r
    ∧ t.cycles = s.cycles + rmwCycles ea
    ∧ ((effectiveAddress ea s).toNat < 0x2000 → memByte t (effectiveAddress ea s) = some r)

/-- A branch answers a next state (45_control.md R650): PC is the target if taken, else the next instruction; 2 cycles, or 3,
or 4 where the target is in another page; nothing else changes. -/
def BranchCompletes (i : Instr) (off : Byte) (taken : Bool) (s : State) : Prop :=
  let next := s.cpu.pc + 2
  let target := next + off.signExtend 16
  ∃ t, exec i s = .next t ∧ t.cpu = { s.cpu with pc := if taken then target else next } ∧ SameMemory s t
    ∧ t.cycles = s.cycles + (if taken then (if next.toNat / 256 = target.toNat / 256 then 3 else 4) else 2)

/-! ## Invariants -/

/-- The beam stands on a dot of the frame (61_ppu.md R920), and the line holds at most eight sprites (R951). -/
structure State.BeamInRange (s : State) : Prop where
  first   : -1 ≤ s.ppu.scanline
  last    : s.ppu.scanline ≤ lastLine s.region
  dot     : s.ppu.dot ≤ 340
  sprites : s.ppu.spr.length ≤ 8
  phase   : s.palPhase < 5

/-- Every bank a window shows is one of the memory's banks (21_cartridge_mappers.md R320, R321), and the chip's registers keep
their widths (R340, R360). -/
structure State.BanksInRange (s : State) : Prop where
  prgWindows : s.mapper.prgMap.length = 4
  chrWindows : s.mapper.chrMap.length = 8
  prg        : ∀ b ∈ s.mapper.prgMap, b ≤ bankMask s.cart.prgRom.size 0x2000
  chr        : ∀ b ∈ s.mapper.chrMap, b ≤ bankMask (chrSize s.cart) 0x400
  prgRam     : s.mapper.prgRamMap ≤ bankMask s.cart.prgRamSize 0x2000
  mmc1       : ∀ r, s.mapper.chip = .mmc1 r → r.writesCount ≤ 4
  mmc3       : ∀ r, s.mapper.chip = .mmc3 r → r.r.length = 8

/-- The DMC reads only 0x8000–0xFFFF (60_exceptions.md R842), asks only for a byte its buffer has room for (62_apu.md R1042), and
counts bits 1 to 8 (R1040). -/
structure State.DmcInRange (s : State) : Prop where
  bits     : 1 ≤ s.apu.dmc.bitsRemaining ∧ s.apu.dmc.bitsRemaining ≤ 8
  sample   : 0xC000 ≤ s.apu.dmc.sampleAddress.toNat
  current  : s.apu.dmc.bytesRemaining ≠ 0 → 0x8000 ≤ s.apu.dmc.currentAddress.toNat
  length   : s.apu.dmc.sampleLength.toNat ≤ 4081
  requests : s.apu.dmc.fetchPending = true → s.apu.dmc.buffer = none ∧ 0x8000 ≤ s.apu.dmc.currentAddress.toNat

/-- The frame sequencer is inside its sequence (62_apu.md R1020, R1021) unless a restart stands (R1008), and the noise shift
register has not died out (R1035, R1052). -/
structure State.SequencerInRange (s : State) : Prop where
  cycle : s.apu.seqRestart = true ∨ s.apu.cycle < seqPeriod (seqTable s.region) s.apu.mode5
  noise : s.apu.noise.lfsr ≠ 0

end Sys2Proof.Machine
end

