-- ==== Sys2Proof/Certificates/Slice0/Obligations.lean ====
section
/-! DEFINITION. The statements for the provers: one `def Obligations.<Name> : Prop` each, from the numbered rules of spec/.
"Completes" and its kin are defined in Safety.lean; each docstring names the rules a statement formalises and, for an
instruction statement, the instructions it covers. A statement whose policy is not named holds under every undocPolicy and
with dummy accesses on or off. -/

open Sys2Proof Sys2Proof.Machine

/-! ## Decoding and encoding -/

/-- 30_encoding.md R400, R403, R404: every instruction with every operand value decodes from its encoding, whatever follows. -/
def Obligations.DecodeEncode : Prop :=
  ∀ (i : Instr) (rest : List Byte), decode (encode i ++ rest) = .ok (i, rest)

/-- 30_encoding.md R400, R401, R404: decoding reads exactly the instruction's own bytes, and they are its encoding; so a byte
string has one meaning. -/
def Obligations.EncodeDecode : Prop :=
  ∀ (bs : List Byte) (i : Instr) (rest : List Byte), decode bs = .ok (i, rest) → encode i ++ rest = bs

/-- 30_encoding.md R401, R407: every one of the 256 opcode bytes decodes, once all its bytes are there; the undocumented ones
are the 105 of R407. -/
def Obligations.OpcodeMap : Prop :=
  (∀ (op : Byte) (rest : List Byte), opcodeLength op ≤ rest.length + 1 →
      ∃ i, decode (op :: rest) = .ok (i, rest.drop (opcodeLength op - 1)) ∧ i.opcode = op)
  ∧ (∀ i : Instr, i.undocumented = true ↔ i.opcode.toNat ∈
      [0x02, 0x12, 0x22, 0x32, 0x42, 0x52, 0x62, 0x72, 0x92, 0xB2, 0xD2, 0xF2]
      ++ [0x80, 0x82, 0x89, 0xC2, 0xE2, 0x04, 0x44, 0x64, 0x14, 0x34, 0x54, 0x74, 0xD4, 0xF4]
      ++ [0x1A, 0x3A, 0x5A, 0x7A, 0xDA, 0xFA, 0x0C, 0x1C, 0x3C, 0x5C, 0x7C, 0xDC, 0xFC]
      ++ [0x03, 0x07, 0x0F, 0x13, 0x17, 0x1B, 0x1F, 0x23, 0x27, 0x2F, 0x33, 0x37, 0x3B, 0x3F]
      ++ [0x43, 0x47, 0x4F, 0x53, 0x57, 0x5B, 0x5F, 0x63, 0x67, 0x6F, 0x73, 0x77, 0x7B, 0x7F]
      ++ [0xC3, 0xC7, 0xCF, 0xD3, 0xD7, 0xDB, 0xDF, 0xE3, 0xE7, 0xEF, 0xF3, 0xF7, 0xFB, 0xFF]
      ++ [0x83, 0x87, 0x8F, 0x97, 0xA3, 0xA7, 0xAF, 0xB3, 0xB7, 0xBF, 0x0B, 0x2B]
      ++ [0x4B, 0x6B, 0x8B, 0xAB, 0xCB, 0xEB, 0x93, 0x9F, 0x9B, 0x9C, 0x9E, 0xBB])

/-- 30_encoding.md R405: words written out from the map decode to the instruction they stand for. -/
def Obligations.DecodeWords : Prop :=
  decode [0xA9, 0x80] = .ok (.ldaImm 0x80, []) ∧ decode [0x8D, 0x00, 0x02] = .ok (.staAbs 0x0200, [])
  ∧ decode [0x96, 0xFF] = .ok (.stxZpy 0xFF, []) ∧ decode [0xBA] = .ok (.tsx, [])
  ∧ decode [0x48] = .ok (.pha, []) ∧ decode [0x61, 0x10] = .ok (.adcIzx 0x10, [])
  ∧ decode [0xF1, 0x20] = .ok (.sbcIzy 0x20, []) ∧ decode [0x2C, 0x02, 0x20] = .ok (.bitAbs 0x2002, [])
  ∧ decode [0x6A] = .ok (.rorAcc, []) ∧ decode [0xD0, 0xFE] = .ok (.bne 0xFE, [])
  ∧ decode [0x6C, 0xFF, 0x02] = .ok (.jmpInd 0x02FF, []) ∧ decode [0x20, 0x00, 0x90] = .ok (.jsr 0x9000, [])
  ∧ decode [0x00, 0xEA] = .ok (.brk 0xEA, []) ∧ decode [0xB8] = .ok (.clv, [])
  ∧ decode [0x07, 0x10] = .ok (.sloZp 0x10, []) ∧ decode [0xCB, 0x01] = .ok (.axsImm 0x01, [])
  ∧ decode [0x02] = .ok (.jam02, [])

/-! ## Power, reset and the step -/

/-- 10_state.md R121, 70_reset_and_hazards.md R1100: what `power()` leaves. No device time passes. The model's readings and
choices: the side flags of the APU registers are 0 (log 34), battery-backed CHR RAM is kept (log 21), the background fetch latches
and the sprite-0 mark in `powerPpu` are 0 (log 41), and in `resetMapper` `prgRamMap` is 0 (log 27), a ColorDreams board starts with
the cartridge's mirroring (log 28) and SNROM is detected by the CHR ROM's size where there is CHR ROM (log 42). -/
def Obligations.PowerOn : Prop :=
  ∀ s : State,
    let p := power s
    p.cpu = { a := 0, x := 0, y := 0, s := 0xFD, pc := p.cpu.pc, n := false, v := false, d := false, i := true, z := false,
              c := false, halted := false, fault := none }
    ∧ (∀ l h, memByte p 0xFFFC = some l → memByte p 0xFFFD = some h → p.cpu.pc = wordOf l h)
    ∧ packP true p.cpu = 0x34
    ∧ p.pending = { reset := false, nmi := false, irqApu := false, irqDmc := false, irqMapper := false }
    ∧ (∀ k, sparseRead p.ram k = 0)
    ∧ (∀ k, sparseRead p.prgRam k = if k < s.cart.prgRamSizeBattery then sparseRead s.prgRam k else 0)
    ∧ (∀ k, sparseRead p.chrRam k = if k < s.cart.chrRamSizeBattery then sparseRead s.chrRam k else 0)
    ∧ p.mapper = resetMapper s.cart ∧ SameBoard s p
    ∧ p.ppu = powerPpu s.params ∧ p.apu = powerApu ∧ p.palPhase = 0 ∧ p.strobe = false

/-- 70_reset_and_hazards.md R1102, 61_ppu.md R920, 21_cartridge_mappers.md R331: the reset state is what `power()` makes of
itself, and every invariant of this file holds there. The model's choices: the blank cartridge (log 1), the values of the OPEN
parameters (log 5), and those that `PowerOn` names. -/
def Obligations.ResetMeetsInvariants : Prop :=
  State.reset = power State.reset ∧ State.reset.memoryWf = true ∧ State.reset.BeamInRange ∧ State.reset.BanksInRange
  ∧ State.reset.DmcInRange ∧ State.reset.SequencerInRange ∧ State.reset.canStep = true ∧ State.reset.quiet = true

/-- 60_exceptions.md R800, R802: where the core neither idles nor is refused, the step makes its interrupt check and then runs
the instruction whose bytes stand at the new PC, with part (3)'s DMA after it; with no entry due the check changes nothing, and
with no DMA requested and no fault part (3) changes nothing. -/
def Obligations.StepRunsDecoded : Prop :=
  ∀ (s u : State) (i : Instr) (bs : List Byte), s.canStep = true → idles s = false →
    u = interruptCheck { s with cycles := 0 } →
    (∀ k (h : k < bs.length), memByte u (u.cpu.pc + BitVec.ofNat 16 k) = some bs[k]) → decode bs = .ok (i, []) →
    (∃ t, exec i u = .next t ∧ step s = .next (finishStep t)
      ∧ (t.oamDma = none → t.apu.dmc.fetchPending = false → step s = .next t)
      ∧ (t.cpu.fault ≠ none → step s = .next t))
    ∧ (s.quiet = true → u = { s with cycles := 0 })

/-- 60_exceptions.md R800, R801, R830, R853: a step is refused in the fault state and with no cartridge, by name, and answers
a next state in every other state. -/
def Obligations.StepOutcomes : Prop :=
  ∀ s : State,
    (s.canStep = true → ∃ t, step s = .next t)
    ∧ (∀ op a, s.cpu.fault = some (op, a) → step s = .refused (.faulted op a))
    ∧ (s.cpu.fault = none → s.present = false → step s = .refused .noCartridge)

/-- 60_exceptions.md R802, R803: the check takes the first that applies of RESET, halted idle, NMI, IRQ with I clear, nothing; a
step makes at most one entry. -/
def Obligations.InterruptCheck : Prop :=
  ∀ s : State, s.canStep = true →
    step s =
      (let z := { s with cycles := 0 }
       if s.pending.reset = true then runInstr (resetEntry z)
       else if s.cpu.halted = true then .next (tick z)
       else if s.pending.nmi = true then runInstr (nmiEntry z)
       else if (s.pending.irqApu = true ∨ s.pending.irqDmc = true ∨ s.pending.irqMapper = true) ∧ s.cpu.i = false then
         runInstr (irqEntry z)
       else runInstr z)

/-- 60_exceptions.md R831, 47_undocumented.md R714: a JAM opcode under `nmos` passes its opcode and halts (in the opcode
fetch), and nothing else halts; a halted step takes one cycle of device time, makes no bus
access and takes no NMI or IRQ; the RESET entry leaves the state. Covers the twelve JAM opcodes. -/
def Obligations.HaltedState : Prop :=
  (∀ (i : Instr) (s : State), i.mnemonic = .jam → s.params.undocPolicy = .nmos →
    i.opcode ∈ ([0x02, 0x12, 0x22, 0x32, 0x42, 0x52, 0x62, 0x72, 0x92, 0xB2, 0xD2, 0xF2] : List Byte)
    ∧ ∃ t, exec i s = .next t ∧ t.cpu = { s.cpu with pc := s.cpu.pc + 1, halted := true } ∧ SameMemory s t)
  ∧ (∀ (i : Instr) (s t : State), exec i s = .next t → s.cpu.halted = false → t.cpu.halted = true →
      i.mnemonic = .jam ∧ s.params.undocPolicy = .nmos)
  ∧ (∀ s : State, s.canStep = true → s.cpu.halted = true → s.pending.reset = false →
    ∃ t, step s = .next t ∧ t = tick { s with cycles := 0 } ∧ t.cycles = 1 ∧ t.cpu = s.cpu ∧ t.draws = s.draws
      ∧ SameMemory s t)
  ∧ (∀ s : State, (resetEntry s).cpu.halted = false ∧ (nmiEntry s).cpu.halted = s.cpu.halted
      ∧ (irqEntry s).cpu.halted = s.cpu.halted)

/-- 60_exceptions.md R804, R810, R811, R813; 20_memory.md R203: NMI and IRQ entry push PC and P with B = 0, set I and load PC
from their vector. The IRQ line is level-sensitive: no entry clears an IRQ bit (a dummy read of 0x4015 would); the NMI bit is
cleared. -/
def Obligations.InterruptEntries : Prop :=
  ∀ s : State,
    (∃ l h, Entered false s.cpu.pc l h s (nmiEntry s)
      ∧ (∀ b, memByte s 0xFFFA = some b → l = b) ∧ (∀ b, memByte s 0xFFFB = some b → h = b))
    ∧ (∃ l h, Entered false s.cpu.pc l h s (irqEntry s)
      ∧ (∀ b, memByte s 0xFFFE = some b → l = b) ∧ (∀ b, memByte s 0xFFFF = some b → h = b))
    ∧ (s.ppu.ctrl.getLsbD 7 = false → (nmiEntry s).pending.nmi = false)
    ∧ (s.cpu.pc ≠ 0x4015 → ∀ t, t = nmiEntry s ∨ t = irqEntry s →
        (s.pending.irqApu = true → t.pending.irqApu = true) ∧ (s.pending.irqDmc = true → t.pending.irqDmc = true)
        ∧ (s.pending.irqMapper = true → t.pending.irqMapper = true))

/-- 10_state.md R122, 60_exceptions.md R812: the RESET entry of `reset()` moves S by −3 without a write, sets I, clears every
pending bit and `halted`, resets the mapper's banking, PPUCTRL and PPUMASK, loads PC from 0xFFFC in that banking, and keeps the
other registers and every RAM. Seven cycles. The banking is that of `resetMapper`, with the model's choices of logs 27, 28 and 42. -/
def Obligations.ResetEntry : Prop :=
  ∀ s : State,
    let t := resetEntry s
    ∃ l h, t.cpu = { s.cpu with s := s.cpu.s - 3, i := true, halted := false, pc := wordOf l h }
      ∧ (∀ b, memByte t 0xFFFC = some b → l = b) ∧ (∀ b, memByte t 0xFFFD = some b → h = b)
      ∧ t.pending = { reset := false, nmi := false, irqApu := false, irqDmc := false, irqMapper := false }
      ∧ t.ram = s.ram ∧ t.prgRam = s.prgRam ∧ SameVideo s t ∧ SameBoard s t
      ∧ SameBanking (resetMapper s.cart) t.mapper ∧ t.ppu.ctrl = 0 ∧ t.ppu.mask = 0
      ∧ t.cycles = s.cycles + 7

/-- 46_system.md R680, R681: BRK and RTI. BRK's return address is the opcode's address plus 2; RTI restores the six flags from
the pulled byte and resumes at exactly the pulled PC. Covers BRK, RTI. -/
def Obligations.BreakAndReturn : Prop :=
  (∀ (sig : Byte) (s : State), encode (.brk sig) = [0x00, sig] ∧
    ∃ t l h, exec (.brk sig) s = .next t ∧ Entered true (s.cpu.pc + 2) l h s t
      ∧ (∀ b, memByte s 0xFFFE = some b → l = b) ∧ (∀ b, memByte s 0xFFFF = some b → h = b))
  ∧ (∀ s : State, encode .rti = [0x40] ∧
    ∃ t, exec .rti s = .next t ∧
      (let p := sparseRead s.ram (stackCell (s.cpu.s + 1))
       t.cpu = { s.cpu with
         n := p.getLsbD 7, v := p.getLsbD 6, d := p.getLsbD 3, i := p.getLsbD 2, z := p.getLsbD 1, c := p.getLsbD 0
         s := s.cpu.s + 3
         pc := wordOf (sparseRead s.ram (stackCell (s.cpu.s + 2))) (sparseRead s.ram (stackCell (s.cpu.s + 3))) })
      ∧ SameMemory s t ∧ t.cycles = s.cycles + 6)

/-- 60_exceptions.md R815, R816; 42_transfer_stack.md R560; 45_control.md R661, R662: what each return brings back. RTI after
BRK, NMI or IRQ gives every register and flag back, I among them, and RTS after JSR resumes at the instruction after JSR; the
stack pointer comes back in each. -/
def Obligations.ReturnsResume : Prop :=
  ∀ s : State,
    (∀ sig, ∃ t u, exec (.brk sig) s = .next t ∧ exec .rti t = .next u ∧ u.cpu = { s.cpu with pc := s.cpu.pc + 2 })
    ∧ (∃ u, exec .rti (nmiEntry s) = .next u ∧ u.cpu = s.cpu)
    ∧ (∃ u, exec .rti (irqEntry s) = .next u ∧ u.cpu = s.cpu)
    ∧ (∀ a, ∃ t u, exec (.jsr a) s = .next t ∧ exec .rts t = .next u ∧ u.cpu = { s.cpu with pc := s.cpu.pc + 3 })
    ∧ (∃ t u, exec .php s = .next t ∧ exec .plp t = .next u ∧ u.cpu = { s.cpu with pc := s.cpu.pc + 2 })

/-! ## Undocumented opcodes: the policies -/

/-- 47_undocumented.md R711, R735; 60_exceptions.md R830: an undocumented opcode under `fault`, and an unstable one under `nmos`,
fetches its opcode and nothing else, records opcode and address, leaves every register and memory and PC at the opcode, and
the next step is refused; nothing else raises the fault. -/
def Obligations.IllegalOpcode : Prop :=
  (∀ (i : Instr) (s : State), i.undocumented = true →
    (s.params.undocPolicy = .fault ∨ (s.params.undocPolicy = .nmos ∧ isUnstable i = true)) →
    ∃ t, exec i s = .next t ∧ t = (cycleRead s s.cpu.pc).2.setCpu { s.cpu with fault := some (i.opcode, s.cpu.pc) }
      ∧ SameMemory s t ∧ t.cycles = s.cycles + 1 ∧ step t = .refused (.faulted i.opcode s.cpu.pc))
  ∧ (∀ (i : Instr) (s t : State), exec i s = .next t → t.cpu.fault ≠ s.cpu.fault →
      i.undocumented = true
      ∧ (s.params.undocPolicy = .fault ∨ (s.params.undocPolicy = .nmos ∧ isUnstable i = true)))

/-- 47_undocumented.md R712: under `nop` an undocumented opcode fetches its bytes, makes no other access and takes its table
cycles (JAM 2). Covers all 105 undocumented opcodes, the unstable ANE, LXA, SHA, TAS, SHY, SHX among them. -/
def Obligations.NopPolicy : Prop :=
  ∀ (i : Instr) (s : State), i.undocumented = true → s.params.undocPolicy = .nop →
    let n := (encode i).length
    let k := if i.mnemonic = .jam then 2 else instrCycles i s
    ∃ t, exec i s = .next t ∧ t = ticks (k - n) (fetchN n s)
      ∧ t.cpu = { s.cpu with pc := s.cpu.pc + BitVec.ofNat 16 n } ∧ SameMemory s t ∧ t.cycles = s.cycles + k

/-- 70_reset_and_hazards.md R1120: the cycle count of every instruction that runs (documented, or undocumented under `nmos`
and neither JAM nor unstable) is its row's, with the page-crossing and branch penalties; an entry takes 7. -/
def Obligations.CycleCounts : Prop :=
  (∀ (i : Instr) (s : State),
    (i.undocumented = false ∨ (s.params.undocPolicy = .nmos ∧ i.mnemonic ≠ .jam ∧ isUnstable i = false)) →
    ∃ t, exec i s = .next t ∧ t.cycles = s.cycles + instrCycles i s)
  ∧ (∀ s : State, (nmiEntry s).cycles = s.cycles + 7 ∧ (irqEntry s).cycles = s.cycles + 7
      ∧ (resetEntry s).cycles = s.cycles + 7)

/-! ## Addresses and operands -/

/-- 41_addressing_load_store.md R500, R504–R506, R508–R511: the effective address of each mode, in exact arithmetic; whether it
crosses a page; and that a mode changes no register but PC and writes nothing. -/
def Obligations.EffectiveAddresses : Prop :=
  ∀ (acc : Access) (s : State),
    (∀ z, (addressOf acc (.zp z) s).1.toNat = z.toNat)
    ∧ (∀ z, (addressOf acc (.zpx z) s).1.toNat = (z.toNat + s.cpu.x.toNat) % 2 ^ 8)
    ∧ (∀ z, (addressOf acc (.zpy z) s).1.toNat = (z.toNat + s.cpu.y.toNat) % 2 ^ 8)
    ∧ (∀ a, (addressOf acc (.abs a) s).1 = a)
    ∧ (∀ a, (addressOf acc (.abx a) s).1.toNat = (a.toNat + s.cpu.x.toNat) % 2 ^ 16
        ∧ crossOf (.abx a) s = decide (a.toNat / 256 ≠ (addressOf acc (.abx a) s).1.toNat / 256))
    ∧ (∀ a, (addressOf acc (.aby a) s).1.toNat = (a.toNat + s.cpu.y.toNat) % 2 ^ 16
        ∧ crossOf (.aby a) s = decide (a.toNat / 256 ≠ (addressOf acc (.aby a) s).1.toNat / 256))
    ∧ (∀ z p, p = (z.toNat + s.cpu.x.toNat) % 2 ^ 8 →
        (addressOf acc (.izx z) s).1.toNat = (sparseRead s.ram p).toNat + 256 * (sparseRead s.ram ((p + 1) % 2 ^ 8)).toNat
        ∧ crossOf (.izx z) s = false)
    ∧ (∀ z base, base = (sparseRead s.ram z.toNat).toNat + 256 * (sparseRead s.ram ((z.toNat + 1) % 2 ^ 8)).toNat →
        (addressOf acc (.izy z) s).1.toNat = (base + s.cpu.y.toNat) % 2 ^ 16
        ∧ crossOf (.izy z) s = decide (base / 256 ≠ (addressOf acc (.izy z) s).1.toNat / 256))
    ∧ (∀ m, (addressOf acc m s).1 = effectiveAddress m s
        ∧ (addressOf acc m s).2.cpu = { s.cpu with pc := s.cpu.pc + BitVec.ofNat 16 (addressingBytes m) }
        ∧ SameMemory s (addressOf acc m s).2)

/-- 41_addressing_load_store.md R514: the operand of a read instruction is the immediate byte, or one read of the effective
address after the mode's own accesses; of memory it is the byte that stands there. The cycles are the table's plus `cross`
for a read, and fixed for a store and a read-modify-write. -/
def Obligations.OperandRead : Prop :=
  ∀ s : State,
    (∀ m, (readOperand (.imm m) s).1 = m ∧ (readOperand (.imm m) s).2.cycles = s.cycles + 2)
    ∧ (∀ ea, readOperand (.mem ea) s = cycleRead (addressOf .read ea s).2 (effectiveAddress ea s)
        ∧ (readOperand (.mem ea) s).1 = operandByte (.mem ea) s
        ∧ (∀ b, memByte s (effectiveAddress ea s) = some b → operandByte (.mem ea) s = b ∧ (rmwBus ea s).1 = b)
        ∧ (readOperand (.mem ea) s).2.cycles = s.cycles + readCycles ea s
        ∧ (addressOf .write ea s).2.cycles + 1 = s.cycles + writeCycles ea
        ∧ (rmwBus ea s).2.cycles + 1 = s.cycles + rmwCycles ea)

/-! ## Loads, stores, transfers, stack -/

/-- 41_addressing_load_store.md R520–R522. Covers LDA, LDX, LDY. -/
def Obligations.LoadResult : Prop :=
  ∀ (i : Instr) (src : Source) (s : State), i.source = some src →
    let m := operandByte src s
    (i.mnemonic = .lda →
      (sourceMode src, i.opcode) ∈ ([(.imm, 0xA9), (.zp, 0xA5), (.zpx, 0xB5), (.abs, 0xAD), (.abx, 0xBD), (.aby, 0xB9),
        (.izx, 0xA1), (.izy, 0xB1)] : List (Mode × Byte))
      ∧ ReadCompletes i src s { s.cpu with a := m, n := m.getLsbD 7, z := decide (m = 0) })
    ∧ (i.mnemonic = .ldx →
      (sourceMode src, i.opcode) ∈ ([(.imm, 0xA2), (.zp, 0xA6), (.zpy, 0xB6), (.abs, 0xAE), (.aby, 0xBE)]
        : List (Mode × Byte))
      ∧ ReadCompletes i src s { s.cpu with x := m, n := m.getLsbD 7, z := decide (m = 0) })
    ∧ (i.mnemonic = .ldy →
      (sourceMode src, i.opcode) ∈ ([(.imm, 0xA0), (.zp, 0xA4), (.zpx, 0xB4), (.abs, 0xAC), (.abx, 0xBC)]
        : List (Mode × Byte))
      ∧ ReadCompletes i src s { s.cpu with y := m, n := m.getLsbD 7, z := decide (m = 0) })

/-- 41_addressing_load_store.md R523–R525. Covers STA, STX, STY. -/
def Obligations.StoreResult : Prop :=
  ∀ (i : Instr) (ea : Addressing) (s : State), i.addressing = some ea →
    (i.mnemonic = .sta →
      (modeOf ea, i.opcode) ∈ ([(.zp, 0x85), (.zpx, 0x95), (.abs, 0x8D), (.abx, 0x9D), (.aby, 0x99), (.izx, 0x81),
        (.izy, 0x91)] : List (Mode × Byte))
      ∧ StoreCompletes i ea s s.cpu.a)
    ∧ (i.mnemonic = .stx →
      (modeOf ea, i.opcode) ∈ ([(.zp, 0x86), (.zpy, 0x96), (.abs, 0x8E)] : List (Mode × Byte))
      ∧ StoreCompletes i ea s s.cpu.x)
    ∧ (i.mnemonic = .sty →
      (modeOf ea, i.opcode) ∈ ([(.zp, 0x84), (.zpx, 0x94), (.abs, 0x8C)] : List (Mode × Byte))
      ∧ StoreCompletes i ea s s.cpu.y)

/-- 42_transfer_stack.md R550–R555, 43_arithmetic.md R587, R588, R590, R591. Covers TAX, TAY, TXA, TYA, TSX, TXS, INX, INY, DEX,
DEY. -/
def Obligations.TransferResult : Prop :=
  ∀ s : State,
    let c := s.cpu
    Completes .tax s 1 2 { c with x := c.a, n := c.a.getLsbD 7, z := decide (c.a = 0) }
    ∧ Completes .tay s 1 2 { c with y := c.a, n := c.a.getLsbD 7, z := decide (c.a = 0) }
    ∧ Completes .txa s 1 2 { c with a := c.x, n := c.x.getLsbD 7, z := decide (c.x = 0) }
    ∧ Completes .tya s 1 2 { c with a := c.y, n := c.y.getLsbD 7, z := decide (c.y = 0) }
    ∧ Completes .tsx s 1 2 { c with x := c.s, n := c.s.getLsbD 7, z := decide (c.s = 0) }
    ∧ Completes .txs s 1 2 { c with s := c.x }
    ∧ Completes .inx s 1 2 { c with x := c.x + 1, n := (c.x + 1).getLsbD 7, z := decide (c.x + 1 = 0) }
    ∧ Completes .iny s 1 2 { c with y := c.y + 1, n := (c.y + 1).getLsbD 7, z := decide (c.y + 1 = 0) }
    ∧ Completes .dex s 1 2 { c with x := c.x - 1, n := (c.x - 1).getLsbD 7, z := decide (c.x - 1 = 0) }
    ∧ Completes .dey s 1 2 { c with y := c.y - 1, n := (c.y - 1).getLsbD 7, z := decide (c.y - 1 = 0) }
    ∧ ([Instr.tax, .tay, .txa, .tya, .tsx, .txs, .inx, .iny, .dex, .dey].map encode
        = [[0xAA], [0xA8], [0x8A], [0x98], [0xBA], [0x9A], [0xE8], [0xC8], [0xCA], [0x88]])

/-- 42_transfer_stack.md R556–R559, 10_state.md R103. S wraps inside page 1. Covers PHA, PHP, PLA, PLP. -/
def Obligations.PushPull : Prop :=
  (∀ (i : Instr) (v : Byte) (s : State),
    (i = .pha ∧ v = s.cpu.a)
      ∨ (i = .php ∧ v = BitVec.ofBool s.cpu.n ++ BitVec.ofBool s.cpu.v ++ (0b11#2) ++ BitVec.ofBool s.cpu.d
          ++ BitVec.ofBool s.cpu.i ++ BitVec.ofBool s.cpu.z ++ BitVec.ofBool s.cpu.c) →
    ∃ t, exec i s = .next t ∧ t.cpu = { s.cpu with pc := s.cpu.pc + 1, s := s.cpu.s - 1 }
      ∧ (∀ k, sparseRead t.ram k = if k = stackCell s.cpu.s then v else sparseRead s.ram k)
      ∧ SameButRam s t ∧ t.cycles = s.cycles + 3)
  ∧ (∀ s : State,
      let m := sparseRead s.ram (stackCell (s.cpu.s + 1))
      Completes .pla s 1 4 { s.cpu with a := m, s := s.cpu.s + 1, n := m.getLsbD 7, z := decide (m = 0) }
      ∧ Completes .plp s 1 4 { s.cpu with
          s := s.cpu.s + 1
          n := m.getLsbD 7, v := m.getLsbD 6, d := m.getLsbD 3, i := m.getLsbD 2, z := m.getLsbD 1, c := m.getLsbD 0 })
  ∧ [Instr.pha, .php, .pla, .plp].map encode = [[0x48], [0x08], [0x68], [0x28]]

/-! ## Arithmetic and logic -/

/-- 43_arithmetic.md R580–R582: ADC and SBC are binary whatever D is. C is the carry, or no borrow; V says that the signed result
lies outside −128 .. 127. Covers ADC, SBC. -/
def Obligations.AddSubtract : Prop :=
  ∀ (i : Instr) (src : Source) (s : State), i.source = some src →
    let m := operandByte src s
    let a := s.cpu.a
    (i.mnemonic = .adc →
      let sum := a.toNat + m.toNat + carryNat s.cpu
      let signed := a.toInt + m.toInt + carryNat s.cpu
      let r : Byte := BitVec.ofNat 8 sum
      (sourceMode src, i.opcode) ∈ ([(.imm, 0x69), (.zp, 0x65), (.zpx, 0x75), (.abs, 0x6D), (.abx, 0x7D), (.aby, 0x79),
        (.izx, 0x61), (.izy, 0x71)] : List (Mode × Byte))
      ∧ ReadCompletes i src s { s.cpu with
          a := r, n := r.getLsbD 7, z := decide (r = 0), c := decide (256 ≤ sum),
          v := decide (signed < -128 ∨ 127 < signed) })
    ∧ (i.mnemonic = .sbc →
      let diff := (a.toNat : Int) - m.toNat - (1 - carryNat s.cpu)
      let signed := a.toInt - m.toInt - (1 - carryNat s.cpu)
      let r : Byte := BitVec.ofInt 8 diff
      (sourceMode src, i.opcode) ∈ ([(.imm, 0xE9), (.zp, 0xE5), (.zpx, 0xF5), (.abs, 0xED), (.abx, 0xFD), (.aby, 0xF9),
        (.izx, 0xE1), (.izy, 0xF1)] : List (Mode × Byte))
      ∧ ReadCompletes i src s { s.cpu with
          a := r, n := r.getLsbD 7, z := decide (r = 0), c := decide (0 ≤ diff),
          v := decide (signed < -128 ∨ 127 < signed) })

/-- 43_arithmetic.md R583–R585, R592: unsigned comparison; no register is written and V is unchanged. Covers CMP, CPX, CPY. -/
def Obligations.CompareResult : Prop :=
  ∀ (i : Instr) (src : Source) (s : State), i.source = some src →
    let m := operandByte src s
    let flags := fun r : Byte =>
      { s.cpu with c := decide (m.toNat ≤ r.toNat), z := decide (r = m), n := (r - m).getLsbD 7 }
    (i.mnemonic = .cmp →
      (sourceMode src, i.opcode) ∈ ([(.imm, 0xC9), (.zp, 0xC5), (.zpx, 0xD5), (.abs, 0xCD), (.abx, 0xDD), (.aby, 0xD9),
        (.izx, 0xC1), (.izy, 0xD1)] : List (Mode × Byte))
      ∧ ReadCompletes i src s (flags s.cpu.a))
    ∧ (i.mnemonic = .cpx →
      (sourceMode src, i.opcode) ∈ ([(.imm, 0xE0), (.zp, 0xE4), (.abs, 0xEC)] : List (Mode × Byte))
      ∧ ReadCompletes i src s (flags s.cpu.x))
    ∧ (i.mnemonic = .cpy →
      (sourceMode src, i.opcode) ∈ ([(.imm, 0xC0), (.zp, 0xC4), (.abs, 0xCC)] : List (Mode × Byte))
      ∧ ReadCompletes i src s (flags s.cpu.y))

/-- 43_arithmetic.md R586, R589; 70_reset_and_hazards.md R1136. Covers INC, DEC. -/
def Obligations.IncrementMemory : Prop :=
  ∀ (i : Instr) (ea : Addressing) (s : State), i.addressing = some ea →
    let m := (rmwBus ea s).1
    (i.mnemonic = .inc →
      (modeOf ea, i.opcode) ∈ ([(.zp, 0xE6), (.zpx, 0xF6), (.abs, 0xEE), (.abx, 0xFE)] : List (Mode × Byte))
      ∧ RmwCompletes i ea s (m + 1) { s.cpu with n := (m + 1).getLsbD 7, z := decide (m + 1 = 0) })
    ∧ (i.mnemonic = .dec →
      (modeOf ea, i.opcode) ∈ ([(.zp, 0xC6), (.zpx, 0xD6), (.abs, 0xCE), (.abx, 0xDE)] : List (Mode × Byte))
      ∧ RmwCompletes i ea s (m - 1) { s.cpu with n := (m - 1).getLsbD 7, z := decide (m - 1 = 0) })

/-- 44_logic_shift.md R620–R623. BIT takes N and V from the operand itself and writes no register. Covers AND, ORA, EOR, BIT. -/
def Obligations.LogicResult : Prop :=
  ∀ (i : Instr) (src : Source) (s : State), i.source = some src →
    let m := operandByte src s
    let into := fun r : Byte => { s.cpu with a := r, n := r.getLsbD 7, z := decide (r = 0) }
    (i.mnemonic = .and →
      (sourceMode src, i.opcode) ∈ ([(.imm, 0x29), (.zp, 0x25), (.zpx, 0x35), (.abs, 0x2D), (.abx, 0x3D), (.aby, 0x39),
        (.izx, 0x21), (.izy, 0x31)] : List (Mode × Byte))
      ∧ ReadCompletes i src s (into (s.cpu.a &&& m)))
    ∧ (i.mnemonic = .ora →
      (sourceMode src, i.opcode) ∈ ([(.imm, 0x09), (.zp, 0x05), (.zpx, 0x15), (.abs, 0x0D), (.abx, 0x1D), (.aby, 0x19),
        (.izx, 0x01), (.izy, 0x11)] : List (Mode × Byte))
      ∧ ReadCompletes i src s (into (s.cpu.a ||| m)))
    ∧ (i.mnemonic = .eor →
      (sourceMode src, i.opcode) ∈ ([(.imm, 0x49), (.zp, 0x45), (.zpx, 0x55), (.abs, 0x4D), (.abx, 0x5D), (.aby, 0x59),
        (.izx, 0x41), (.izy, 0x51)] : List (Mode × Byte))
      ∧ ReadCompletes i src s (into (s.cpu.a ^^^ m)))
    ∧ (i.mnemonic = .bit →
      (sourceMode src, i.opcode) ∈ ([(.zp, 0x24), (.abs, 0x2C)] : List (Mode × Byte))
      ∧ ReadCompletes i src s { s.cpu with z := decide (s.cpu.a &&& m = 0), n := m.getLsbD 7, v := m.getLsbD 6 })

/-- 44_logic_shift.md R624–R627: shifts and rotates by one bit, of A or of memory; C is the bit shifted out. Covers ASL, LSR,
ROL, ROR. -/
def Obligations.ShiftRotate : Prop :=
  ∀ s : State,
    let ci := carryNat s.cpu
    let asl := fun m : Byte => ((BitVec.ofNat 8 (2 * m.toNat) : Byte), m.getLsbD 7)
    let lsr := fun m : Byte => ((BitVec.ofNat 8 (m.toNat / 2) : Byte), m.getLsbD 0)
    let rol := fun m : Byte => ((BitVec.ofNat 8 (2 * m.toNat + ci) : Byte), m.getLsbD 7)
    let ror := fun m : Byte => ((BitVec.ofNat 8 (128 * ci + m.toNat / 2) : Byte), m.getLsbD 0)
    let flags := fun q : Byte × Bool => { s.cpu with c := q.2, n := q.1.getLsbD 7, z := decide (q.1 = 0) }
    let acc := fun q : Byte × Bool => { flags q with a := q.1 }
    Completes .aslAcc s 1 2 (acc (asl s.cpu.a)) ∧ Completes .lsrAcc s 1 2 (acc (lsr s.cpu.a))
    ∧ Completes .rolAcc s 1 2 (acc (rol s.cpu.a)) ∧ Completes .rorAcc s 1 2 (acc (ror s.cpu.a))
    ∧ [Instr.aslAcc, .lsrAcc, .rolAcc, .rorAcc].map encode = [[0x0A], [0x4A], [0x2A], [0x6A]]
    ∧ ∀ (i : Instr) (ea : Addressing), i.addressing = some ea →
      let m := (rmwBus ea s).1
      (i.mnemonic = .asl →
        (modeOf ea, i.opcode) ∈ ([(.zp, 0x06), (.zpx, 0x16), (.abs, 0x0E), (.abx, 0x1E)] : List (Mode × Byte))
        ∧ RmwCompletes i ea s (asl m).1 (flags (asl m)))
      ∧ (i.mnemonic = .lsr →
        (modeOf ea, i.opcode) ∈ ([(.zp, 0x46), (.zpx, 0x56), (.abs, 0x4E), (.abx, 0x5E)] : List (Mode × Byte))
        ∧ RmwCompletes i ea s (lsr m).1 (flags (lsr m)))
      ∧ (i.mnemonic = .rol →
        (modeOf ea, i.opcode) ∈ ([(.zp, 0x26), (.zpx, 0x36), (.abs, 0x2E), (.abx, 0x3E)] : List (Mode × Byte))
        ∧ RmwCompletes i ea s (rol m).1 (flags (rol m)))
      ∧ (i.mnemonic = .ror →
        (modeOf ea, i.opcode) ∈ ([(.zp, 0x66), (.zpx, 0x76), (.abs, 0x6E), (.abx, 0x7E)] : List (Mode × Byte))
        ∧ RmwCompletes i ea s (ror m).1 (flags (ror m)))

/-! ## Control and flags -/

/-- 45_control.md R650–R658, 41_addressing_load_store.md R513. Covers BCC, BCS, BEQ, BNE, BMI, BPL, BVC, BVS. -/
def Obligations.BranchResult : Prop :=
  ∀ (off : Byte) (s : State),
    BranchCompletes (.bcc off) off (!s.cpu.c) s ∧ BranchCompletes (.bcs off) off s.cpu.c s
    ∧ BranchCompletes (.beq off) off s.cpu.z s ∧ BranchCompletes (.bne off) off (!s.cpu.z) s
    ∧ BranchCompletes (.bmi off) off s.cpu.n s ∧ BranchCompletes (.bpl off) off (!s.cpu.n) s
    ∧ BranchCompletes (.bvc off) off (!s.cpu.v) s ∧ BranchCompletes (.bvs off) off s.cpu.v s
    ∧ [Instr.bcc off, .bcs off, .beq off, .bne off, .bmi off, .bpl off, .bvc off, .bvs off].map encode
      = [[0x90, off], [0xB0, off], [0xF0, off], [0xD0, off], [0x30, off], [0x10, off], [0x50, off], [0x70, off]]

/-- 45_control.md R659–R662, 41_addressing_load_store.md R512: the indirect jump's pointer wraps in its page; JSR pushes the
address of its last byte and fetches the high byte of the target after the pushes; RTS adds 1. Covers JMP (both), JSR, RTS. -/
def Obligations.JumpResult : Prop :=
  ∀ (s : State) (a : Word),
    (∃ t, exec (.jmpAbs a) s = .next t ∧ t.cpu = { s.cpu with pc := a } ∧ SameMemory s t ∧ t.cycles = s.cycles + 3)
    ∧ (∃ t l h, exec (.jmpInd a) s = .next t ∧ t.cpu = { s.cpu with pc := wordOf l h } ∧ SameMemory s t
        ∧ t.cycles = s.cycles + 5 ∧ (∀ b, memByte s a = some b → l = b)
        ∧ (∀ b, memByte s (BitVec.ofNat 16 (256 * (a.toNat / 256) + (a.toNat + 1) % 256)) = some b → h = b))
    ∧ (∃ t h, exec (.jsr a) s = .next t ∧ t.cpu = { s.cpu with s := s.cpu.s - 2, pc := wordOf (loByte a) h }
        ∧ (∀ k, sparseRead t.ram k =
            if k = stackCell s.cpu.s then hiByte (s.cpu.pc + 2)
            else if k = stackCell (s.cpu.s - 1) then loByte (s.cpu.pc + 2) else sparseRead s.ram k)
        ∧ (∀ b, memByte t (s.cpu.pc + 2) = some b → h = b) ∧ SameButRam s t ∧ t.cycles = s.cycles + 6)
    ∧ (∃ t, exec .rts s = .next t ∧ t.cpu = { s.cpu with
          s := s.cpu.s + 2
          pc := wordOf (sparseRead s.ram (stackCell (s.cpu.s + 1))) (sparseRead s.ram (stackCell (s.cpu.s + 2))) + 1 }
        ∧ SameMemory s t ∧ t.cycles = s.cycles + 6)
    ∧ [Instr.jmpAbs a, .jmpInd a, .jsr a, .rts].map encode
      = [[0x4C, loByte a, hiByte a], [0x6C, loByte a, hiByte a], [0x20, loByte a, hiByte a], [0x60]]

/-- 46_system.md R682–R689: each changes the named flag only, NOP none. Covers NOP (EA), CLC, SEC, CLI, SEI, CLD, SED, CLV. -/
def Obligations.FlagInstructions : Prop :=
  ∀ s : State,
    Completes .nop s 1 2 s.cpu
    ∧ Completes .clc s 1 2 { s.cpu with c := false } ∧ Completes .sec s 1 2 { s.cpu with c := true }
    ∧ Completes .cli s 1 2 { s.cpu with i := false } ∧ Completes .sei s 1 2 { s.cpu with i := true }
    ∧ Completes .cld s 1 2 { s.cpu with d := false } ∧ Completes .sed s 1 2 { s.cpu with d := true }
    ∧ Completes .clv s 1 2 { s.cpu with v := false }
    ∧ [Instr.nop, .clc, .sec, .cli, .sei, .cld, .sed, .clv].map encode
      = [[0xEA], [0x18], [0x38], [0x58], [0x78], [0xD8], [0xF8], [0xB8]]

/-! ## Undocumented opcodes under `nmos` -/

/-- 47_undocumented.md R720–R723, R726, R727. Covers SLO, RLA, SRE, RRA, DCP, ISC. -/
def Obligations.UndocReadModifyWrite : Prop :=
  ∀ (i : Instr) (ea : Addressing) (s : State), i.addressing = some ea → s.params.undocPolicy = .nmos →
    let m := (rmwBus ea s).1
    let a := s.cpu.a
    let ci := carryNat s.cpu
    let into := fun (c : Bool) (r : Byte) => { s.cpu with a := r, n := r.getLsbD 7, z := decide (r = 0), c := c }
    let modes := fun x0 x1 x2 x3 x4 x5 x6 : Byte =>
      (modeOf ea, i.opcode) ∈ ([(.izx, x0), (.zp, x1), (.abs, x2), (.izy, x3), (.zpx, x4), (.aby, x5), (.abx, x6)]
        : List (Mode × Byte))
    (i.mnemonic = .slo →
      let r : Byte := BitVec.ofNat 8 (2 * m.toNat)
      modes 0x03 0x07 0x0F 0x13 0x17 0x1B 0x1F ∧ RmwCompletes i ea s r (into (m.getLsbD 7) (a ||| r)))
    ∧ (i.mnemonic = .rla →
      let r : Byte := BitVec.ofNat 8 (2 * m.toNat + ci)
      modes 0x23 0x27 0x2F 0x33 0x37 0x3B 0x3F ∧ RmwCompletes i ea s r (into (m.getLsbD 7) (a &&& r)))
    ∧ (i.mnemonic = .sre →
      let r : Byte := BitVec.ofNat 8 (m.toNat / 2)
      modes 0x43 0x47 0x4F 0x53 0x57 0x5B 0x5F ∧ RmwCompletes i ea s r (into (m.getLsbD 0) (a ^^^ r)))
    ∧ (i.mnemonic = .rra →
      let r : Byte := BitVec.ofNat 8 (128 * ci + m.toNat / 2)
      let sum := a.toNat + r.toNat + m.toNat % 2
      let signed := a.toInt + r.toInt + (m.toNat % 2 : Nat)
      modes 0x63 0x67 0x6F 0x73 0x77 0x7B 0x7F
      ∧ RmwCompletes i ea s r
          { into (decide (256 ≤ sum)) (BitVec.ofNat 8 sum) with v := decide (signed < -128 ∨ 127 < signed) })
    ∧ (i.mnemonic = .dcp →
      modes 0xC3 0xC7 0xCF 0xD3 0xD7 0xDB 0xDF
      ∧ RmwCompletes i ea s (m - 1) { s.cpu with
          c := decide ((m - 1).toNat ≤ a.toNat), z := decide (a = m - 1), n := (a - (m - 1)).getLsbD 7 })
    ∧ (i.mnemonic = .isc →
      let diff := (a.toNat : Int) - (m + 1).toNat - (1 - ci)
      let signed := a.toInt - (m + 1).toInt - (1 - ci)
      modes 0xE3 0xE7 0xEF 0xF3 0xF7 0xFB 0xFF
      ∧ RmwCompletes i ea s (m + 1)
          { into (decide (0 ≤ diff)) (BitVec.ofInt 8 diff) with v := decide (signed < -128 ∨ 127 < signed) })

/-- 47_undocumented.md R724, R725, R734. Covers SAX, LAX, LAS. -/
def Obligations.UndocLoadStore : Prop :=
  (∀ (i : Instr) (ea : Addressing) (s : State), i.addressing = some ea → s.params.undocPolicy = .nmos → i.mnemonic = .sax →
    (modeOf ea, i.opcode) ∈ ([(.izx, 0x83), (.zp, 0x87), (.abs, 0x8F), (.zpy, 0x97)] : List (Mode × Byte))
    ∧ StoreCompletes i ea s (s.cpu.a &&& s.cpu.x))
  ∧ (∀ (i : Instr) (src : Source) (s : State), i.source = some src → s.params.undocPolicy = .nmos →
    let m := operandByte src s
    let r := m &&& s.cpu.s
    (i.mnemonic = .lax →
      (sourceMode src, i.opcode) ∈ ([(.izx, 0xA3), (.zp, 0xA7), (.abs, 0xAF), (.izy, 0xB3), (.zpy, 0xB7), (.aby, 0xBF)]
        : List (Mode × Byte))
      ∧ ReadCompletes i src s { s.cpu with a := m, x := m, n := m.getLsbD 7, z := decide (m = 0) })
    ∧ (i.mnemonic = .las →
      (sourceMode src, i.opcode) = (.aby, 0xBB)
      ∧ ReadCompletes i src s { s.cpu with a := r, x := r, s := r, n := r.getLsbD 7, z := decide (r = 0) }))

/-- 47_undocumented.md R728–R732. Covers ANC, ALR, ARR, AXS, USBC. -/
def Obligations.UndocImmediate : Prop :=
  ∀ (m : Byte) (s : State), s.params.undocPolicy = .nmos →
    let c := s.cpu
    let t := c.a &&& m
    let half : Byte := BitVec.ofNat 8 (t.toNat / 2)
    let rot : Byte := BitVec.ofNat 8 (128 * carryNat c + t.toNat / 2)
    let ax := c.a &&& c.x
    let diff := (c.a.toNat : Int) - m.toNat - (1 - carryNat c)
    let signed := c.a.toInt - m.toInt - (1 - carryNat c)
    let r : Byte := BitVec.ofInt 8 diff
    Completes (.ancImm0B m) s 2 2 { c with a := t, n := t.getLsbD 7, z := decide (t = 0), c := t.getLsbD 7 }
    ∧ Completes (.ancImm2B m) s 2 2 { c with a := t, n := t.getLsbD 7, z := decide (t = 0), c := t.getLsbD 7 }
    ∧ Completes (.alrImm m) s 2 2 { c with a := half, n := false, z := decide (half = 0), c := t.getLsbD 0 }
    ∧ Completes (.arrImm m) s 2 2 { c with
        a := rot, n := rot.getLsbD 7, z := decide (rot = 0), c := rot.getLsbD 6, v := rot.getLsbD 6 ^^ rot.getLsbD 5 }
    ∧ Completes (.axsImm m) s 2 2 { c with
        x := ax - m, n := (ax - m).getLsbD 7, z := decide (ax = m), c := decide (m.toNat ≤ ax.toNat) }
    ∧ Completes (.usbcImm m) s 2 2 { c with
        a := r, n := r.getLsbD 7, z := decide (r = 0), c := decide (0 ≤ diff), v := decide (signed < -128 ∨ 127 < signed) }
    ∧ [Instr.ancImm0B m, .ancImm2B m, .alrImm m, .arrImm m, .axsImm m, .usbcImm m].map encode
      = [[0x0B, m], [0x2B, m], [0x4B, m], [0x6B, m], [0xCB, m], [0xEB, m]]

/-- 47_undocumented.md R733: under `nmos` an undocumented NOP fetches its operand bytes, reads its operand, with the read's side
effects, and changes nothing else. Covers the 27 undocumented NOPs. -/
def Obligations.UndocNops : Prop :=
  ∀ (i : Instr) (s : State), i.mnemonic = .nop → i.undocumented = true → s.params.undocPolicy = .nmos →
    (∀ src, i.source = some src →
      (sourceMode src, i.opcode) ∈ ([(.imm, 0x80), (.imm, 0x82), (.imm, 0x89), (.imm, 0xC2), (.imm, 0xE2), (.zp, 0x04),
        (.zp, 0x44), (.zp, 0x64), (.zpx, 0x14), (.zpx, 0x34), (.zpx, 0x54), (.zpx, 0x74), (.zpx, 0xD4), (.zpx, 0xF4),
        (.abs, 0x0C), (.abx, 0x1C), (.abx, 0x3C), (.abx, 0x5C), (.abx, 0x7C), (.abx, 0xDC), (.abx, 0xFC)]
        : List (Mode × Byte))
      ∧ ReadCompletes i src s s.cpu)
    ∧ (i.source = none →
      i.opcode ∈ ([0x1A, 0x3A, 0x5A, 0x7A, 0xDA, 0xFA] : List Byte) ∧ Completes i s 1 2 s.cpu)

/-! ## Frames -/

/-- 41_addressing_load_store.md R500, 42_transfer_stack.md R560, 20_memory.md R209: an instruction that neither stores nor
pushes leaves every byte of memory, the banking and every memory of the devices as they were; one that pushes changes only the
stack cells its S named. Covers every instruction that does not store at an effective address. -/
def Obligations.FrameNoStore : Prop :=
  (∀ (i : Instr) (s t : State), writesMemory i = false → pushes i = 0 → exec i s = .next t →
    SameMemory s t ∧ ∀ a, memByte t a = memByte s a)
  ∧ (∀ (i : Instr) (s t : State), writesMemory i = false → exec i s = .next t →
    SameButRam s t ∧ ∀ a : Word,
      (∀ j, j < pushes i → ¬(a.toNat < 0x2000 ∧ a.toNat % 0x800 = stackCell (s.cpu.s - BitVec.ofNat 8 j))) →
      memByte t a = memByte s a)

/-- 20_memory.md R205, R209, R213, R216: a storing instruction changes, of all memory, only the cell its effective address
names, and the banking only if that is a register of the mapper's chip; where it writes one and so moves a bank, the bytes of the
memories are still those. Covers STA, STX, STY, INC, DEC, the memory forms of ASL, LSR, ROL, ROR, and SAX, SLO, RLA, SRE, RRA, DCP, ISC. -/
def Obligations.FrameStore : Prop :=
  ∀ (i : Instr) (ea : Addressing) (s t : State), writesMemory i = true → i.addressing = some ea → exec i s = .next t →
    let e := effectiveAddress ea s
    SameButStored e s t
    ∧ (SameBanking s.mapper t.mapper → ∀ a : Word,
        ¬(e.toNat < 0x2000 ∧ a.toNat < 0x2000 ∧ a.toNat % 0x800 = e.toNat % 0x800) →
        ¬(0x6000 ≤ e.toNat ∧ e.toNat < 0x8000 ∧ 0x6000 ≤ a.toNat ∧ a.toNat < 0x8000
            ∧ prgRamOffset s.cart s.mapper a.toNat = prgRamOffset s.cart s.mapper e.toNat) →
        memByte t a = memByte s a)

/-- 10_state.md R101, R103, R107–R112; 43_arithmetic.md R593: which instructions may write each register and flag; every other
instruction leaves it, under every policy. -/
def Obligations.RegisterFrame : Prop :=
  ∀ (i : Instr) (s t : State), exec i s = .next t →
    let m := i.mnemonic
    (m ∉ ([.lda, .pla, .txa, .tya, .adc, .sbc, .and, .ora, .eor, .slo, .rla, .sre, .rra, .isc, .lax, .las, .anc, .alr,
        .arr, .usbc] : List Mnemonic) → ¬(m ∈ ([.asl, .lsr, .rol, .ror] : List Mnemonic) ∧ i.addressing = none) →
      t.cpu.a = s.cpu.a)
    ∧ (m ∉ ([.ldx, .tax, .tsx, .inx, .dex, .lax, .las, .axs] : List Mnemonic) → t.cpu.x = s.cpu.x)
    ∧ (m ∉ ([.ldy, .tay, .iny, .dey] : List Mnemonic) → t.cpu.y = s.cpu.y)
    ∧ (m ∉ ([.txs, .pha, .php, .pla, .plp, .jsr, .rts, .brk, .rti, .las] : List Mnemonic) → t.cpu.s = s.cpu.s)
    ∧ (m ∉ ([.adc, .sbc, .cmp, .cpx, .cpy, .asl, .lsr, .rol, .ror, .clc, .sec, .plp, .rti, .slo, .rla, .sre, .rra, .dcp,
        .isc, .anc, .alr, .arr, .axs, .usbc] : List Mnemonic) → t.cpu.c = s.cpu.c)
    ∧ (m ∉ ([.adc, .sbc, .bit, .clv, .plp, .rti, .arr, .rra, .isc, .usbc] : List Mnemonic) → t.cpu.v = s.cpu.v)
    ∧ (m ∉ ([.sed, .cld, .plp, .rti] : List Mnemonic) → t.cpu.d = s.cpu.d)
    ∧ (m ∉ ([.sei, .cli, .brk, .plp, .rti] : List Mnemonic) → t.cpu.i = s.cpu.i)
    ∧ (m ∉ ([.lda, .ldx, .ldy, .tax, .tay, .txa, .tya, .tsx, .pla, .inc, .inx, .iny, .dec, .dex, .dey, .adc, .sbc, .and,
        .ora, .eor, .asl, .lsr, .rol, .ror, .cmp, .cpx, .cpy, .bit, .plp, .rti, .slo, .rla, .sre, .rra, .dcp, .isc, .lax,
        .las, .anc, .alr, .arr, .axs, .usbc] : List Mnemonic) → t.cpu.z = s.cpu.z ∧ t.cpu.n = s.cpu.n)

/-! ## Memory -/

/-- 20_memory.md R202, R205, R209, R214; 21_cartridge_mappers.md R323: a read of RAM, or of enabled PRG RAM, gives the value
written last to its cell, by whichever mirror. -/
def Obligations.ReadAfterWrite : Prop :=
  (∀ (s : State) (a b : Word) (v : Byte), a.toNat < 0x2000 → b.toNat < 0x2000 →
    (cpuRead (cpuWrite s a v) b).1 = if b.toNat % 0x800 = a.toNat % 0x800 then v else (cpuRead s b).1)
  ∧ (∀ (s : State) (a b : Word) (v : Byte), 0x6000 ≤ a.toNat → a.toNat < 0x8000 → 0x6000 ≤ b.toNat → b.toNat < 0x8000 →
    s.mapper.prgRamOn = true → 0 < s.cart.prgRamSize →
    (cpuRead (cpuWrite s a v) b).1 =
      if s.mapper.prgRamWE = true ∧ prgRamOffset s.cart s.mapper b.toNat = prgRamOffset s.cart s.mapper a.toNat then v
      else (cpuRead s b).1)

/-- 20_memory.md R210: the reads with side effects and what each changes; every other read changes no state but the count of the
free-value draws. -/
def Obligations.ReadSideEffects : Prop :=
  ∀ (s : State) (a : Word),
    let n := a.toNat
    let ppuPort := fun r : Nat => 0x2000 ≤ n ∧ n < 0x4000 ∧ n % 8 = r
    (¬ppuPort 2 → ¬ppuPort 7 → n ≠ 0x4015 → n ≠ 0x4016 → n ≠ 0x4017 →
      ∃ k, (cpuRead s a).2 = { s with draws := { s.draws with openBus := k } })
    ∧ (ppuPort 2 → ∃ k, (cpuRead s a).2 =
        { s with ppu := { s.ppu with vblank := false, w := false }, draws := { s.draws with openBus := k } })
    ∧ (ppuPort 7 → ∃ k,
        let p : BitVec 14 := s.ppu.v.setWidth 14
        (cpuRead s a).2 = { s with
          ppu := { s.ppu with
            readBuf := ppuRead s (if p.toNat < 0x3F00 then p else p - 0x1000), v := ppuDataIncrement s.ppu }
          draws := { s.draws with openBus := k } }
        ∧ (p.toNat < 0x3F00 → (cpuRead s a).1 = s.ppu.readBuf))
    ∧ (n = 0x4015 → ∃ k, (cpuRead s a).2 =
        { s with pending := { s.pending with irqApu := false }, draws := { s.draws with openBus := k } })
    ∧ (n = 0x4016 ∨ n = 0x4017 → ∃ k, (cpuRead s a).2 =
        { s with draws := { s.draws with openBus := k, input := s.draws.input + 1 } })

/-! ## Invariants of every step -/

/-- 20_memory.md R205, 21_cartridge_mappers.md R300, R324; 47_undocumented.md R710: no step changes the cartridge (PRG ROM
and CHR ROM among it), the policy or any other parameter. -/
def Obligations.BoardNeverChanges : Prop := ∀ s t : State, step s = .next t → SameBoard s t

/-- 20_memory.md R202; 21_cartridge_mappers.md R321–R326; 61_ppu.md R900, R901, R914: every memory stays inside its size, in
its canonical form. The canonical sparse form, and the bound of 4 KiB for nametable memory with every mirroring (R900 gives 2 KiB
unless four-screen), are the model's choice (log 30). -/
def Obligations.StepKeepsMemoryForm : Prop :=
  ∀ s t : State, s.memoryWf = true → step s = .next t → t.memoryWf = true

/-- 61_ppu.md R920, R951; 60_exceptions.md R856: the beam stays inside the frame, a line holds at most eight sprites, the PAL
phase stays below 5. -/
def Obligations.StepKeepsBeam : Prop := ∀ s t : State, s.BeamInRange → step s = .next t → t.BeamInRange

/-- 21_cartridge_mappers.md R320, R321, R340; 60_exceptions.md R832: every bank index stays masked, so no address is ever out of
range; the MMC1's write count stays below 5. -/
def Obligations.StepKeepsBanks : Prop := ∀ s t : State, s.BanksInRange → step s = .next t → t.BanksInRange

/-- 60_exceptions.md R842; 62_apu.md R1007, R1040–R1043: the DMC reads only 0x8000–0xFFFF, asks only while its buffer is empty, and
counts bits 1 to 8, also where a 0x4015 write stops a sample whose next byte is already requested. -/
def Obligations.StepKeepsDmc : Prop := ∀ s t : State, s.DmcInRange → step s = .next t → t.DmcInRange

/-- 62_apu.md R1008, R1020, R1021, R1035: the frame sequencer stays inside its sequence, and the noise shift register never
dies out. -/
def Obligations.StepKeepsSequencer : Prop :=
  ∀ s t : State, s.SequencerInRange → step s = .next t → t.SequencerInRange

/-! ## Cartridge and mappers -/

/-- 21_cartridge_mappers.md R301–R309, R311: the loader's errors in their order, and the fields of an image it accepts. -/
def Obligations.LoaderParse : Prop :=
  ∀ bs : List Byte,
    let b := fun i => (bs.getD i 0).toNat
    let nes2 := b 7 / 8 % 2 = 1
    let prg := b 4 + (if nes2 then 256 * (b 9 % 16) else 0)
    let chr := b 5 + (if nes2 then 256 * (b 9 / 16) else 0)
    let off := 16 + (if b 6 / 4 % 2 = 1 then 512 else 0)
    let signed := bs.take 4 = [0x4E, 0x45, 0x53, 0x1A]
    let size := fun code : Nat => if code = 0 then 0 else 2 ^ (code - 1) * 128
    let chrRam := if nes2 then size (b 11 % 16) + size (b 11 / 16) else 0
    (¬signed → parse bs = .error .formatError)
    ∧ (signed → bs.length < 16 → parse bs = .error .truncatedError)
    ∧ (signed → 16 ≤ bs.length → prg = 0 → parse bs = .error .invalidHeaderError)
    ∧ (signed → 16 ≤ bs.length → prg ≠ 0 → bs.length < off + prg * 0x4000 + chr * 0x2000 →
        parse bs = .error .truncatedError)
    ∧ (signed → 16 ≤ bs.length → prg ≠ 0 → off + prg * 0x4000 + chr * 0x2000 ≤ bs.length →
        ∃ c, parse bs = .ok c
          ∧ c.mapperNum = b 6 / 16 + 16 * (b 7 / 16) + (if nes2 then 256 * (b 8 % 16) else 0)
          ∧ c.submapperId = (if nes2 then some (BitVec.ofNat 4 (b 8 / 16)) else none)
          ∧ c.mirroring = (if b 6 / 8 % 2 = 1 then .fourScreen else if b 6 % 2 = 1 then .vertical else .horizontal)
          ∧ c.region = (if (if nes2 then b 12 else b 9) % 2 = 1 then .pal else .ntsc)
          ∧ c.prgRom.size = prg * 0x4000
          ∧ (∀ k, k < prg * 0x4000 → sparseRead c.prgRom.bytes k = bs.getD (off + k) 0)
          ∧ (chr = 0 → c.chrRom = none)
          ∧ (chr ≠ 0 → ∃ r, c.chrRom = some r ∧ r.size = chr * 0x2000
              ∧ ∀ k, k < chr * 0x2000 → sparseRead r.bytes k = bs.getD (off + prg * 0x4000 + k) 0)
          ∧ c.prgRamSize = (if nes2 then size (b 10 % 16) + size (b 10 / 16)
              else if b 8 = 0 then 0x2000 else b 8 * 0x2000)
          ∧ c.prgRamSizeBattery = (if nes2 then size (b 10 / 16) else if b 6 / 2 % 2 = 1 then c.prgRamSize else 0)
          ∧ c.chrRamSize = (if chr = 0 ∧ chrRam = 0 then 0x2000 else chrRam)
          ∧ c.chrRamSizeBattery = (if nes2 then size (b 11 / 16) else 0))

/-- 21_cartridge_mappers.md R320, R321, R324, R330, R350–R355: a write to the register of a one-register mapper on a board of
2^p · 32 KiB of PRG ROM and 2^q · 8 KiB of CHR shows the written bank, wrapped to the banks there are, and with
`colorDreamsMirroring` sets the page by the bit it names. On a board of any size NINA-001's three registers, below 0x8000, show
their banks after the PRG RAM write (R323), and no other chip has a register there. -/
def Obligations.BankRegisters : Prop :=
  (∀ (s : State) (a : Word) (v : Byte), 0x8000 ≤ a.toNat → s.mapper.chip = .nrom ∨ s.mapper.chip = .nina001 →
    cpuWrite s a v = s)
  ∧ (∀ (s : State) (a : Word) (v : Byte) (p q : Nat), s.cart.prgRom.size = 2 ^ p * 0x8000 → chrSize s.cart = 2 ^ q * 0x2000 →
    s.mapper.prgMap.length = 4 → s.mapper.chrMap.length = 8 → 0x8000 ≤ a.toNat →
    let m := (cpuWrite s a v).mapper
    let prg32 := fun b => [4 * (b % 2 ^ p), 4 * (b % 2 ^ p) + 1, 4 * (b % 2 ^ p) + 2, 4 * (b % 2 ^ p) + 3]
    (s.mapper.chip = .unrom →
        m.prgMap.take 2 = [2 * (v.toNat % 2 ^ (p + 1)), 2 * (v.toNat % 2 ^ (p + 1)) + 1]
        ∧ m.prgMap.drop 2 = s.mapper.prgMap.drop 2 ∧ m.chrMap = s.mapper.chrMap ∧ m.mirroring = s.mapper.mirroring)
    ∧ (s.mapper.chip = .cnrom →
        m.chrMap = (List.range 8).map (fun i => 8 * (v.toNat % 2 ^ q) + i) ∧ m.prgMap = s.mapper.prgMap
        ∧ m.mirroring = s.mapper.mirroring)
    ∧ (s.mapper.chip = .aorom →
        m.prgMap = prg32 (v.toNat % 8) ∧ m.mirroring = (if v.toNat / 16 % 2 = 1 then .single1 else .single0)
        ∧ m.chrMap = s.mapper.chrMap)
    ∧ (s.mapper.chip = .bnrom →
        m.prgMap = prg32 v.toNat ∧ m.mirroring = s.mapper.mirroring ∧ m.chrMap = s.mapper.chrMap)
    ∧ (s.mapper.chip = .colorDreams →
        m.prgMap = prg32 (v.toNat % 4) ∧ m.chrMap = (List.range 8).map (fun i => 8 * (v.toNat / 16 % 2 ^ q) + i)
        ∧ (s.params.colorDreamsMirroring = none → m.mirroring = s.mapper.mirroring)
        ∧ ∀ b, s.params.colorDreamsMirroring = some b →
            m.mirroring = (if v.toNat / 2 ^ b.val % 2 = 1 then .single1 else .single0)))
  ∧ (∀ (s : State) (a : Word) (v : Byte), s.mapper.prgMap.length = 4 → s.mapper.chrMap.length = 8 → 0x6000 ≤ a.toNat →
    a.toNat < 0x8000 →
    let t := cpuWrite s a v
    let chr4 := fun b => shownBanks (chrSize s.cart) 0x400 4 b
    t = { s with prgRam := t.prgRam, mapper := t.mapper }
    ∧ (∀ k, sparseRead t.prgRam k =
        if s.mapper.prgRamWE = true ∧ 0 < s.cart.prgRamSize
          ∧ k = (s.mapper.prgRamMap * 0x2000 + a.toNat % 0x2000) % s.cart.prgRamSize then v
        else sparseRead s.prgRam k)
    ∧ (s.mapper.chip ≠ .nina001 → t.mapper = s.mapper)
    ∧ (s.mapper.chip = .nina001 → t.mapper = { s.mapper with
        prgMap := if a = 0x7FFD then shownBanks s.cart.prgRom.size 0x2000 4 (v.toNat % 2) else s.mapper.prgMap
        chrMap := if a = 0x7FFE then chr4 (v.toNat % 16) ++ s.mapper.chrMap.drop 4
          else if a = 0x7FFF then s.mapper.chrMap.take 4 ++ chr4 (v.toNat % 16)
          else s.mapper.chrMap }))

/-- 21_cartridge_mappers.md R340–R345, R348: five writes with bit 7 clear load the register that the last address selects, the
first write's bit lowest; a write with bit 7 set restarts the sequence and sets control bits 3:2. A write that does either gives
the mirroring, the PRG and CHR banks and, on an SNROM board, the PRG RAM that the registers say; any other only shifts. -/
def Obligations.Mmc1Serial : Prop :=
  (∀ (s : State) (r : Mmc1) (a₁ a₂ a₃ a₄ a₅ : Word) (v₁ v₂ v₃ v₄ v₅ : Byte),
    s.mapper.chip = .mmc1 r → r.writesCount = 0 →
    (∀ a ∈ [a₁, a₂, a₃, a₄, a₅], 0x8000 ≤ a.toNat) → (∀ v ∈ [v₁, v₂, v₃, v₄, v₅], v.getLsbD 7 = false) →
    let t := cpuWrite (cpuWrite (cpuWrite (cpuWrite (cpuWrite s a₁ v₁) a₂ v₂) a₃ v₃) a₄ v₄) a₅ v₅
    let x : BitVec 5 := BitVec.ofNat 5
      (v₁.toNat % 2 + 2 * (v₂.toNat % 2) + 4 * (v₃.toNat % 2) + 8 * (v₄.toNat % 2) + 16 * (v₅.toNat % 2))
    let z := { r with shift := 0, writesCount := 0 }
    t.mapper.chip = .mmc1 (
      if a₅.toNat < 0xA000 then { z with control := x }
      else if a₅.toNat < 0xC000 then { z with chr0 := x, lastChr := false }
      else if a₅.toNat < 0xE000 then { z with chr1 := x, lastChr := true }
      else { z with prg := x }))
  ∧ (∀ (s : State) (r : Mmc1) (a : Word) (v : Byte), s.mapper.chip = .mmc1 r → 0x8000 ≤ a.toNat → v.getLsbD 7 = true →
      (cpuWrite s a v).mapper.chip = .mmc1 { r with shift := 0, writesCount := 0, control := r.control ||| 0x0C })
  ∧ (∀ (s : State) (r : Mmc1) (a : Word) (v : Byte), s.mapper.chip = .mmc1 r → 0x8000 ≤ a.toNat → v.getLsbD 7 = false →
      r.writesCount ≠ 4 →
      (cpuWrite s a v).mapper = { s.mapper with chip := .mmc1 { r with
        shift := BitVec.ofNat 5 (r.shift.toNat / 2 + 16 * (v.toNat % 2)), writesCount := r.writesCount + 1 } })
  ∧ (∀ (s : State) (r : Mmc1) (a : Word) (v : Byte), s.mapper.chip = .mmc1 r → s.mapper.prgMap.length = 4 →
      s.mapper.chrMap.length = 8 → 0x8000 ≤ a.toNat → v.getLsbD 7 = true ∨ r.writesCount = 4 →
      let m := (cpuWrite s a v).mapper
      ∃ q : Mmc1, m.chip = .mmc1 q ∧ q.snrom = r.snrom ∧
        let mode := q.control.toNat / 4 % 4
        let prg := shownBanks s.cart.prgRom.size 0x2000
        let chr := shownBanks (chrSize s.cart) 0x400
        let ram := if q.lastChr then q.chr1 else q.chr0
        m.mirroring = [Mirroring.single0, .single1, .vertical, .horizontal].getD (q.control.toNat % 4) .single0
        ∧ m.prgMap = (if mode < 2 then prg 4 (q.prg.toNat / 2 % 8)
            else if mode = 2 then prg 2 0 ++ prg 2 (q.prg.toNat % 16)
            else prg 2 (q.prg.toNat % 16) ++ prg 2 (s.cart.prgRom.size / 0x4000 - 1))
        ∧ m.chrMap = (if q.control.toNat < 16 then chr 8 (q.chr0.toNat / 2) else chr 4 q.chr0.toNat ++ chr 4 q.chr1.toNat)
        ∧ (q.snrom = true → m.prgRamOn = !ram.getLsbD 4 ∧ m.prgRamWE = !ram.getLsbD 4
            ∧ [m.prgRamMap] = shownBanks s.cart.prgRamSize 0x2000 1 (ram.toNat / 4 % 4))
        ∧ (q.snrom = false → m.prgRamOn = s.mapper.prgRamOn ∧ m.prgRamWE = s.mapper.prgRamWE
            ∧ m.prgRamMap = s.mapper.prgRamMap))

/-- 21_cartridge_mappers.md R361–R363, R366–R368: what each MMC3 register write leaves of the registers, the PRG and CHR banks,
the mirroring and the PRG RAM protection; after a 0xC000 write of n and a 0xC001 write, with the IRQ enabled, the ticks give
IRQ_MAPPER first at the (n + 1)-th, and with n = 0 at every one; of the mapper writes, those to 0xE000 clear it and no other
moves it. -/
def Obligations.Mmc3Counter : Prop :=
  (∀ (s : State) (r : Mmc3) (n w : Byte), s.mapper.chip = .mmc3 r → r.irqEnabled = true →
    let m := (cpuWrite (cpuWrite s 0xC000 n) 0xC001 w).mapper
    (∀ k, k ≤ n.toNat → mapperTickIrq (mapperTick^[k] m) = decide (k = n.toNat))
    ∧ (n = 0 → ∀ k, mapperTickIrq (mapperTick^[k] m) = true))
  ∧ (∀ (s : State) (r : Mmc3) (a : Word) (v : Byte), s.mapper.chip = .mmc3 r → 0x8000 ≤ a.toNat →
    (cpuWrite s a v).pending.irqMapper = (s.pending.irqMapper && !(decide (0xE000 ≤ a.toNat) && decide (a.toNat % 2 = 0))))
  ∧ (∀ (s : State) (r : Mmc3) (a : Word) (v : Byte), s.mapper.chip = .mmc3 r → s.mapper.prgMap.length = 4 →
    s.mapper.chrMap.length = 8 → 0x8000 ≤ a.toNat →
    let n := a.toNat
    let q : Mmc3 :=
      if n < 0xA000 then
        (if n % 2 = 0 then { r with bankSelect := v } else { r with r := r.r.set (r.bankSelect.toNat % 8) v })
      else if n < 0xC000 then r
      else if n < 0xE000 then
        (if n % 2 = 0 then { r with irqLatch := v } else { r with irqCounter := 0, irqReload := true })
      else { r with irqEnabled := decide (n % 2 = 1) }
    let bank := fun i => (q.r.getD i 0).toNat
    let l := s.cart.prgRom.size / 0x2000
    let prg := fun bs : List Nat => bs.flatMap (shownBanks s.cart.prgRom.size 0x2000 1)
    let chr := fun bs : List Nat => bs.flatMap (shownBanks (chrSize s.cart) 0x400 1)
    let pairs := [bank 0 / 2 * 2, bank 0 / 2 * 2 + 1, bank 1 / 2 * 2, bank 1 / 2 * 2 + 1]
    let singles := [bank 2, bank 3, bank 4, bank 5]
    (cpuWrite s a v).mapper = { s.mapper with
      chip := .mmc3 q
      prgMap := if n < 0xA000 then
          prg (if q.bankSelect.getLsbD 6 then [l - 2, bank 7, bank 6, l - 1] else [bank 6, bank 7, l - 2, l - 1])
        else s.mapper.prgMap
      chrMap := if n < 0xA000 then chr (if q.bankSelect.getLsbD 7 then singles ++ pairs else pairs ++ singles)
        else s.mapper.chrMap
      mirroring := if 0xA000 ≤ n ∧ n < 0xC000 ∧ n % 2 = 0 ∧ s.cart.mirroring ≠ .fourScreen then
          (if v.getLsbD 0 then .horizontal else .vertical)
        else s.mapper.mirroring
      prgRamOn := if 0xA000 ≤ n ∧ n < 0xC000 ∧ n % 2 = 1 then v.getLsbD 7 else s.mapper.prgRamOn
      prgRamWE := if 0xA000 ≤ n ∧ n < 0xC000 ∧ n % 2 = 1 then v.getLsbD 7 && !v.getLsbD 6 else s.mapper.prgRamWE })

/-! ## PPU -/

/-- 21_cartridge_mappers.md R325, R326; 61_ppu.md R912, R914: what a PPU write stores and a PPU read gives back, through the
nametable mirroring, the palette mirrors and the CHR windows; CHR ROM is not written. -/
def Obligations.PpuMemoryMap : Prop :=
  ∀ (s : State) (a b : BitVec 14) (v : Byte),
    let i := fun n => if n % 32 = 16 ∨ n % 32 = 20 ∨ n % 32 = 24 ∨ n % 32 = 28 then n % 32 - 16 else n % 32
    let pages : List Nat := match s.mapper.mirroring with
      | .horizontal => [0, 0, 1, 1]
      | .vertical => [0, 1, 0, 1]
      | .single0 => [0, 0, 0, 0]
      | .single1 => [1, 1, 1, 1]
      | .fourScreen => [0, 1, 2, 3]
    let cell := fun n => pages.getD (n / 0x400 % 4) 0 * 0x400 + n % 0x400
    (0x3F00 ≤ a.toNat → 0x3F00 ≤ b.toNat →
      ppuRead (ppuWrite s a v) b = if i b.toNat = i a.toNat then v &&& 0x3F else ppuRead s b)
    ∧ (0x2000 ≤ a.toNat → a.toNat < 0x3F00 → 0x2000 ≤ b.toNat → b.toNat < 0x3F00 →
      ppuRead (ppuWrite s a v) b = if cell b.toNat = cell a.toNat then v else ppuRead s b)
    ∧ (a.toNat < 0x2000 → b.toNat < 0x2000 → s.cart.chrRom = none → chrOffset s.mapper a.toNat < s.cart.chrRamSize →
      ppuRead (ppuWrite s a v) b =
        if chrOffset s.mapper b.toNat = chrOffset s.mapper a.toNat then v else ppuRead s b)
    ∧ (a.toNat < 0x2000 → s.cart.chrRom ≠ none → ppuWrite s a v = s)
    ∧ ((a.toNat < 0x2000 ↔ ¬b.toNat < 0x2000) ∨ (a.toNat < 0x3F00 ↔ ¬b.toNat < 0x3F00) →
      ppuRead (ppuWrite s a v) b = ppuRead s b)

/-- 61_ppu.md R903, R942, R943: the scroll increments and copies, on v and t as 15-bit numbers. -/
def Obligations.ScrollArithmetic : Prop :=
  ∀ v t : BitVec 15,
    coarseXInc v = (if v.toNat % 32 = 31 then (v &&& 0x7FE0) ^^^ 0x0400 else v + 1)
    ∧ yInc v =
      (if v.toNat / 4096 < 7 then v + 0x1000
       else if v.toNat / 32 % 32 = 29 then (v &&& 0x0C1F) ^^^ 0x0800
       else if v.toNat / 32 % 32 = 31 then v &&& 0x0C1F
       else (v &&& 0x0FFF) + 32)
    ∧ copyHorizontal v t = (v &&& 0x7BE0) ||| (t &&& 0x041F)
    ∧ copyVertical v t = (v &&& 0x041F) ||| (t &&& 0x7BE0)

/-- 61_ppu.md R904, R909–R911: the two writes of PPUSCROLL and of PPUADDR share w and t, at every mirror; PPUDATA writes PPU memory
at v; a PPUDATA read below the palette gives the buffer and fills it from v, and a palette read gives the entry under two free
bits (D52) and fills the buffer with the nametable byte under the palette; each access moves v, by CoarseXInc and YInc with
rendering on and the scanline in −1..239, else by 1 or 32. -/
def Obligations.PpuPorts : Prop :=
  ∀ (s : State) (a : Word) (v : Byte), 0x2000 ≤ a.toNat → a.toNat < 0x4000 →
    let t := (cpuWrite s a v).ppu
    let p : BitVec 14 := s.ppu.v.setWidth 14
    let rendering := (s.ppu.mask.getLsbD 3 = true ∨ s.ppu.mask.getLsbD 4 = true) ∧ -1 ≤ s.ppu.scanline ∧ s.ppu.scanline ≤ 239
    let moved := if rendering then yInc (coarseXInc s.ppu.v) else s.ppu.v + (if s.ppu.ctrl.getLsbD 2 then 32 else 1)
    (a.toNat % 8 = 5 → s.ppu.w = false →
      t = { s.ppu with t := t.t, x := BitVec.ofNat 3 v.toNat, w := true }
      ∧ t.t.toNat = s.ppu.t.toNat / 32 * 32 + v.toNat / 8)
    ∧ (a.toNat % 8 = 5 → s.ppu.w = true →
      t = { s.ppu with t := t.t, w := false }
      ∧ t.t.toNat = v.toNat % 8 * 4096 + s.ppu.t.toNat / 1024 % 4 * 1024 + v.toNat / 8 * 32 + s.ppu.t.toNat % 32)
    ∧ (a.toNat % 8 = 6 → s.ppu.w = false →
      t = { s.ppu with t := t.t, w := true } ∧ t.t.toNat = v.toNat % 64 * 256 + s.ppu.t.toNat % 256)
    ∧ (a.toNat % 8 = 6 → s.ppu.w = true →
      t = { s.ppu with t := t.t, v := t.t, w := false } ∧ t.t.toNat = s.ppu.t.toNat / 256 * 256 + v.toNat)
    ∧ (a.toNat % 8 = 7 →
      cpuWrite s a v = { ppuWrite s p v with ppu := { (ppuWrite s p v).ppu with v := moved } })
    ∧ (a.toNat % 8 = 7 → p.toNat < 0x3F00 →
      cpuRead s a = (s.ppu.readBuf, { s with ppu := { s.ppu with readBuf := ppuRead s p, v := moved } }))
    ∧ (a.toNat % 8 = 7 → 0x3F00 ≤ p.toNat →
      (cpuRead s a).1.toNat % 64 = (sparseRead s.ppu.palette (paletteIndex p.toNat)).toNat
      ∧ ∃ k, (cpuRead s a).2 =
          { s with
            ppu := { s.ppu with readBuf := ppuRead s (p - 0x1000), v := moved }
            draws := { s.draws with openBus := k } })
    ∧ (a.toNat % 8 = 7 → renderingOn s.ppu = false → s.ppu.v.toNat % 0x4000 < 0x3EE0 →
      (cpuRead s a).1 = s.ppu.readBuf ∧ (cpuRead (cpuRead s a).2 a).1 = ppuRead s p)

/-- 61_ppu.md R905–R908, R913: PPUCTRL, PPUMASK, PPUSTATUS, OAMADDR and OAMDATA. The low five bits of a status read are a free
value (D14). -/
def Obligations.PpuRegisters : Prop :=
  ∀ (s : State) (a : Word) (v : Byte), 0x2000 ≤ a.toNat → a.toNat < 0x4000 →
    let t := cpuWrite s a v
    (a.toNat % 8 = 0 →
      t = { s with
        ppu := { s.ppu with ctrl := v, t := t.ppu.t }
        pending := { s.pending with
          nmi := s.pending.nmi || (v.getLsbD 7 && !s.ppu.ctrl.getLsbD 7 && s.ppu.vblank) } }
      ∧ t.ppu.t.toNat = s.ppu.t.toNat / 4096 * 4096 + v.toNat % 4 * 1024 + s.ppu.t.toNat % 1024)
    ∧ (a.toNat % 8 = 1 → t = { s with ppu := { s.ppu with mask := v } })
    ∧ (a.toNat % 8 = 2 → t = s ∧ (cpuRead s a).1.toNat / 32
        = (if s.ppu.vblank then 4 else 0) + (if s.ppu.spr0Hit then 2 else 0) + (if s.ppu.sprOverflow then 1 else 0)
      ∧ ∃ k, (cpuRead s a).2 =
          { s with ppu := { s.ppu with vblank := false, w := false }, draws := { s.draws with openBus := k } })
    ∧ (a.toNat % 8 = 3 → t = { s with ppu := { s.ppu with oamAddr := v } })
    ∧ (a.toNat % 8 = 4 →
      t = { s with ppu := { s.ppu with oam := t.ppu.oam, oamAddr := s.ppu.oamAddr + 1 } }
      ∧ (∀ k, sparseRead t.ppu.oam k = if k = s.ppu.oamAddr.toNat then v else sparseRead s.ppu.oam k)
      ∧ cpuRead s a =
          ((let b := sparseRead s.ppu.oam s.ppu.oamAddr.toNat
            if s.ppu.oamAddr.toNat % 4 = 2 then b &&& 0b11100011 else b), s))

/-- 61_ppu.md R920, R921, R935–R937: the beam's advance from every dot of the frame with the odd-frame skip; the flags and the NMI
at vblank start; the flags cleared on the pre-render line; and no other dot or CPU write raises NMI, but a PPUCTRL write that
turns bit 7 on during vblank. R945: the mapper is ticked at dot 260 of a visible line with rendering on, where only an MMC3
reacts, and at no other dot. 60_exceptions.md R856: a CPU cycle is one cycle of the APU and then 3 dots, on PAL 4 in every fifth,
16 in any five. -/
def Obligations.FrameTiming : Prop :=
  (∀ s : State, s.BeamInRange →
    let t := ppuDot s
    let p := s.ppu
    let last : Int := if s.region = .ntsc then 260 else 310
    let skip := s.region = .ntsc ∧ (p.mask.getLsbD 3 = true ∨ p.mask.getLsbD 4 = true) ∧ p.oddFrame = true
      ∧ p.scanline = -1 ∧ p.dot = 339
    (t.ppu.dot = if p.dot = 340 ∨ skip then 0 else p.dot + 1)
    ∧ (t.ppu.scanline = if p.dot = 340 ∨ skip then (if p.scanline = last then -1 else p.scanline + 1) else p.scanline)
    ∧ (t.ppu.oddFrame = if p.dot = 340 ∧ p.scanline = last then !p.oddFrame else p.oddFrame)
    ∧ (p.scanline = 241 ∧ p.dot = 1 →
        t.ppu.vblank = true ∧ t.ppu.frameAvailable = true ∧ t.pending.nmi = (s.pending.nmi || p.ctrl.getLsbD 7))
    ∧ (p.scanline = -1 ∧ p.dot = 1 →
        t.ppu.vblank = false ∧ t.ppu.spr0Hit = false ∧ t.ppu.sprOverflow = false)
    ∧ (¬(p.scanline = 241 ∧ p.dot = 1) → t.ppu.frameAvailable = p.frameAvailable ∧ t.pending.nmi = s.pending.nmi)
    ∧ (¬(p.scanline = 241 ∧ p.dot = 1) → ¬(p.scanline = -1 ∧ p.dot = 1) → t.ppu.vblank = p.vblank
        ∧ (p.spr0Hit = true → t.ppu.spr0Hit = true) ∧ (p.sprOverflow = true → t.ppu.sprOverflow = true)))
  ∧ (∀ s : State,
    let ticked := s.ppu.dot = 260 ∧ 0 ≤ s.ppu.scanline ∧ s.ppu.scanline ≤ 239
      ∧ (s.ppu.mask.getLsbD 3 = true ∨ s.ppu.mask.getLsbD 4 = true)
    (ppuDot s).mapper = (if ticked then mapperTick s.mapper else s.mapper)
    ∧ ((ppuDot s).pending.irqMapper = true ↔ s.pending.irqMapper = true ∨ (ticked ∧ mapperTickIrq s.mapper = true)))
  ∧ (∀ m : Mapper, (∀ r, m.chip ≠ .mmc3 r) → mapperTick m = m ∧ mapperTickIrq m = false)
  ∧ (∀ s : State, s.palPhase < 5 →
    let dots := fun k => if s.region = .pal ∧ k % 5 = 4 then 4 else 3
    tick s = ppuDot^[dots s.palPhase] (apuTick s)
    ∧ (apuTick s).ppu = s.ppu ∧ (apuTick s).mapper = s.mapper ∧ (apuTick s).apu = apuCycle s.region s.apu
    ∧ (s.region = .pal → (tick s).palPhase = (s.palPhase + 1) % 5
        ∧ ((List.range 5).map (fun i => dots (s.palPhase + i))).sum = 16))
  ∧ (∀ s : State, (power s).palPhase = 0)
  ∧ (∀ (s : State) (a : Word) (v : Byte), s.pending.nmi = false →
      ((cpuWrite s a v).pending.nmi = true ↔
        0x2000 ≤ a.toNat ∧ a.toNat < 0x4000 ∧ a.toNat % 8 = 0 ∧ v.getLsbD 7 = true ∧ s.ppu.ctrl.getLsbD 7 = false
          ∧ s.ppu.vblank = true))

/-- 61_ppu.md R950, R951: at dot 257 of a visible line with rendering on, the next line's sprites are the first eight entries in
range, in OAM order; a ninth sets the overflow flag, or with the overflow bug the diagonal search after the eighth does (R952, over
the OAM bytes as they are read, log 26). The pre-render line leaves no sprite. R953: the fetches load slot j's shift pair with the
pattern bytes of its row, and change nothing else of the units. The model's choices (log 8): the units take their bytes, or on the
pre-render line are cleared, at dot 257, and slot j fetches at dots 261 + 8 · j and 263 + 8 · j. -/
def Obligations.SpriteEvaluation : Prop :=
  (∀ s : State, s.ppu.scanline = -1 → s.ppu.dot = 257 → (ppuDot s).ppu.spr = [] ∧ (ppuDot s).ppu.spr0OnLine = false)
  ∧ (∀ (s : State) (y : Nat), s.ppu.scanline = (y : Int) → y < 240 → s.ppu.dot = 257 → renderingOn s.ppu = true →
    let t := (ppuDot s).ppu
    let h : Int := if s.ppu.ctrl.getLsbD 5 then 16 else 8
    let byte := fun n k => sparseRead s.ppu.oam (4 * n + k)
    let inRange := fun b : Byte => decide (0 ≤ (y : Int) - b.toNat) && decide ((y : Int) - b.toNat < h)
    let found := (List.range 64).filter (fun n => inRange (byte n 0))
    t.spr = (found.take 8).map (fun n =>
        { y := byte n 0, tile := byte n 1, attr := byte n 2, x := byte n 3, lo := 0, hi := 0 })
    ∧ t.spr0OnLine = decide (0 ∈ found)
    ∧ (s.params.spriteOverflowBug = false → t.sprOverflow = (s.ppu.sprOverflow || decide (8 < found.length)))
    ∧ (s.params.spriteOverflowBug = true → found.length < 8 → t.sprOverflow = s.ppu.sprOverflow)
    ∧ (s.params.spriteOverflowBug = true → ∀ n₀, found[7]? = some n₀ → t.sprOverflow = (s.ppu.sprOverflow
        || (List.range 64).any (fun n => decide (n₀ < n) && inRange (oamByte s.ppu.oam (4 * n + (n - n₀ - 1) % 4))))))
  ∧ (∀ (s : State) (y j : Nat) (u : SpriteUnit), s.ppu.scanline = (y : Int) → y < 240 → renderingOn s.ppu = true → j < 8 →
    s.ppu.spr[j]? = some u →
    let h := if s.ppu.ctrl.getLsbD 5 then 16 else 8
    u.y.toNat ≤ y → y - u.y.toNat < h →
    let row := if u.attr.getLsbD 7 then h - 1 - (y - u.y.toNat) else y - u.y.toNat
    let tile := u.tile.toNat
    let addr := if s.ppu.ctrl.getLsbD 5 then tile % 2 * 0x1000 + (tile / 2 * 2 + row / 8) * 16 + row % 8
      else (if s.ppu.ctrl.getLsbD 3 then 0x1000 else 0) + tile * 16 + row
    let loaded := fun (shifter b : Byte) =>
      ∀ k, k < 8 → shifter.getLsbD k = b.getLsbD (if u.attr.getLsbD 6 then 7 - k else k)
    (s.ppu.dot = 261 + 8 * j → ∃ lo, (ppuDot s).ppu.spr = s.ppu.spr.set j { u with lo := lo }
      ∧ loaded lo (ppuRead s (BitVec.ofNat 14 addr)))
    ∧ (s.ppu.dot = 263 + 8 * j → ∃ hi, (ppuDot s).ppu.spr = s.ppu.spr.set j { u with hi := hi }
      ∧ loaded hi (ppuRead s (BitVec.ofNat 14 (addr + 8)))))

/-- 61_ppu.md R901, R955, R960: dot x + 1 of visible line y writes pixel (x, y) and no other, composed from the background pixel of
the shifters (R941) and the first visible sprite pixel by the sprite's priority, and counts or shifts each sprite unit; with
rendering off it is the backdrop; no other dot writes a pixel. Sprite 0 hits there exactly if slot 0 is sprite 0 and both its pixel
and the background's are not 0, both shown, and x is not 255. R941: what each dot of a fetching line leaves of the shifters. The
model's choices: the pixel is taken after the dot's shift (log 9), and the grey mask applies with rendering off too (log 33). A
sprite pixel's address is R960's as it is written (log 40 says what R914 and R950 call those entries). -/
def Obligations.PixelOutput : Prop :=
  (∀ (s : State) (y x : Nat), s.ppu.scanline = (y : Int) → y < 240 → s.ppu.dot = x + 1 → x < 256 →
    let t := ppuDot s
    let mask := s.ppu.mask
    let bit := fun w : BitVec 16 => w.toNat / 2 ^ (15 - s.ppu.x.toNat) % 2
    let pixel := 2 * bit t.ppu.bg.bgHi + bit t.ppu.bg.bgLo
    let bg := if mask.getLsbD 3 = true ∧ (8 ≤ x ∨ mask.getLsbD 1 = true) then pixel else 0
    let bgAddr := if bg = 0 then 0x3F00 else 0x3F00 + 4 * (2 * bit t.ppu.bg.atHi + bit t.ppu.bg.atLo) + bg
    let unit := fun u : SpriteUnit => if u.x = 0 then 2 * (u.hi.toNat / 128) + u.lo.toNat / 128 else 0
    let front := if mask.getLsbD 4 = true ∧ (8 ≤ x ∨ mask.getLsbD 2 = true) then s.ppu.spr.find? (fun u => unit u ≠ 0) else none
    let addr := match front with
      | none => bgAddr
      | some u =>
        if bg ≠ 0 ∧ u.attr.getLsbD 5 = true then bgAddr
        else 0x3F10 + 4 * (4 + u.attr.toNat % 4) + unit u
    let grey : BitVec 6 := if mask.getLsbD 0 then 0x30 else 0x3F
    sparseLookup t.ppu.frame (y * 256 + x) = some (sparseRead s.ppu.palette (paletteIndex addr) &&& grey)
    ∧ (∀ k, k ≠ y * 256 + x → sparseLookup t.ppu.frame k = sparseLookup s.ppu.frame k)
    ∧ (renderingOn s.ppu = false → addr = 0x3F00)
    ∧ t.ppu.spr = s.ppu.spr.map (fun u =>
        if u.x = 0 then { u with lo := u.lo <<< 1, hi := u.hi <<< 1 } else { u with x := u.x - 1 })
    ∧ (t.ppu.spr0Hit = true ↔ s.ppu.spr0Hit = true
        ∨ (s.ppu.spr0OnLine = true ∧ (∃ u us, s.ppu.spr = u :: us ∧ unit u ≠ 0) ∧ pixel ≠ 0
          ∧ mask.getLsbD 3 = true ∧ mask.getLsbD 4 = true ∧ x ≠ 255
          ∧ ¬(x < 8 ∧ (mask.getLsbD 1 = false ∨ mask.getLsbD 2 = false)))))
  ∧ (∀ s : State, -1 ≤ s.ppu.scanline → s.ppu.scanline < 240 →
    let b := s.ppu.bg
    let t := (ppuDot s).ppu.bg
    let d := s.ppu.dot
    let on := s.ppu.mask.getLsbD 3 = true ∨ s.ppu.mask.getLsbD 4 = true
    let shifted := fun w : BitVec 16 =>
      if on ∧ ((2 ≤ d ∧ d ≤ 257) ∨ (322 ≤ d ∧ d ≤ 337)) then w.toNat * 2 % 0x10000 else w.toNat
    let reloaded := fun (w : BitVec 16) (low : Nat) =>
      if on ∧ d % 8 = 1 ∧ ((9 ≤ d ∧ d ≤ 257) ∨ d = 329 ∨ d = 337) then shifted w / 256 * 256 + low else shifted w
    t.bgLo.toNat = reloaded b.bgLo b.patLo.toNat ∧ t.bgHi.toNat = reloaded b.bgHi b.patHi.toNat
    ∧ t.atLo.toNat = reloaded b.atLo (b.atBits.toNat % 2 * 255) ∧ t.atHi.toNat = reloaded b.atHi (b.atBits.toNat / 2 * 255))
  ∧ (∀ s : State, s.BeamInRange → ¬(0 ≤ s.ppu.scanline ∧ s.ppu.scanline < 240 ∧ 1 ≤ s.ppu.dot ∧ s.ppu.dot ≤ 256) →
      (ppuDot s).ppu.frame = s.ppu.frame)

/-! ## DMA and the APU's interrupts -/

/-- 60_exceptions.md R840, R841, R844: a write to 0x4014 requests the transfer; it takes 512 cycles, leaves the registers and
CPU memory alone, and with rendering off puts byte k of the page at OAMADDR + k, wrapping around OAM. That a write with a
request already standing replaces its page is the model's choice (log 16). -/
def Obligations.OamDma : Prop :=
  (∀ (s : State) (v : Byte), cpuWrite s 0x4014 v = { s with oamDma := some v })
  ∧ (∀ s : State, s.oamDma = none → oamDmaRun s = s)
  ∧ (∀ (s : State) (page : Byte), s.oamDma = some page →
    let t := oamDmaRun s
    t.oamDma = none ∧ t.cpu = s.cpu ∧ t.cycles = s.cycles + 512 ∧ t.ram = s.ram ∧ t.prgRam = s.prgRam ∧ SameBoard s t
    ∧ (renderingOn s.ppu = false →
        t.ppu.oamAddr = s.ppu.oamAddr
        ∧ ∀ k b : Byte, memByte s (wordOf k page) = some b → sparseRead t.ppu.oam (s.ppu.oamAddr + k).toNat = b))

/-- 60_exceptions.md R842, R843; 62_apu.md R1042–R1044: a DMC with an empty buffer and bytes left always has its request standing;
the fetch takes 3 or 4 cycles, reads in the last of them, and gives the DMC its byte: the address wraps to 0x8000, the last byte
restarts a looping sample or, with the IRQ enabled, sets the DMC flag. -/
def Obligations.DmcFetch : Prop :=
  (∀ s : State, (tick s).apu.dmc.buffer = none → (tick s).apu.dmc.bytesRemaining ≠ 0 →
    (tick s).apu.dmc.fetchPending = true)
  ∧ (∀ (s : State) (b : Byte), s.apu.dmc.fetchPending = true → memByte s s.apu.dmc.currentAddress = some b →
    let d := s.apu.dmc
    ∃ (w : State) (stall : Nat), (stall = 3 ∨ stall = 4)
      ∧ w = ticks (stall - 1) { s with draws := { s.draws with dmcStall := s.draws.dmcStall + 1 } }
      ∧ dmcFetch s = tick { w with
          apu := { w.apu with dmc := { w.apu.dmc with
            buffer := some b
            fetchPending := false
            currentAddress := if d.bytesRemaining = 1 ∧ d.loop = true then d.sampleAddress
              else if d.currentAddress = 0xFFFF then 0x8000 else d.currentAddress + 1
            bytesRemaining := if d.bytesRemaining = 1 ∧ d.loop = true then d.sampleLength.setWidth 12
              else d.bytesRemaining - 1 } }
          pending := { w.pending with irqDmc := w.pending.irqDmc
            || (decide (d.bytesRemaining = 1) && !d.loop && d.irqEnable) } }
      ∧ (dmcFetch s).cycles = s.cycles + stall)

/-- 62_apu.md R1005, R1020–R1022: the sequencer counts CPU cycles modulo its mode's length and gives the quarter-frame and
half-frame clocks at its mode's cycles; the frame flag is set only at q4 in 4-step mode without inhibit, cleared by a 0x4015 read
and by a 0x4017 write with bit 6 set, and moved by no other access; the status byte, whose bit 5 is a free value (D14).
R1002–R1004, R1006–R1008, R1051: what each write to 0x4000–0x4013, 0x4015 and 0x4017 leaves of the APU and of its flags. That the
tick of the cycle that writes 0x4017 still gives its clocks and the frame flag, with the mode just written, and then leaves the
sequencer at 0, is the model's reading (`seqRestart`, log 14). R1030–R1032, R1034: what a quarter-frame clock does to the envelopes
and the linear counter and a half-frame clock to the length counters and the sweeps, and that they change nothing else. -/
def Obligations.FrameInterrupt : Prop :=
  (∀ (s : State) (k : Nat), s.apu.cycle = 0 → s.apu.seqRestart = false →
    (ticks k s).apu.cycle = k %
      (match s.region, s.apu.mode5 with
        | .ntsc, false => 29830
        | .ntsc, true => 37282
        | .pal, false => 33254
        | .pal, true => 41566))
  ∧ (∀ s : State,
    let n := s.apu.cycle + 1
    let ntsc := decide (s.region = .ntsc)
    let half := decide (n = if ntsc then 14913 else 16627)
      || (if s.apu.mode5 then decide (n = if ntsc then 37281 else 41565) else decide (n = if ntsc then 29829 else 33252))
    let quarter := half || decide (n = if ntsc then 7457 else 8313) || decide (n = if ntsc then 22371 else 24939)
    let a := if quarter then quarterFrame s.apu else s.apu
    let b := if half then halfFrame a else a
    let c := (tick s).apu
    c.pulse1 = { b.pulse1 with timer := c.pulse1.timer, step := c.pulse1.step }
    ∧ c.pulse2 = { b.pulse2 with timer := c.pulse2.timer, step := c.pulse2.step }
    ∧ c.triangle = { b.triangle with timer := c.triangle.timer, step := c.triangle.step }
    ∧ c.noise = { b.noise with timer := c.noise.timer, lfsr := c.noise.lfsr }
    ∧ c.mode5 = s.apu.mode5 ∧ c.irqInhibit = s.apu.irqInhibit)
  ∧ (∀ a : Apu,
    let q := quarterFrame a
    let clocked := fun (vol : BitVec 4) (halt : Bool) (e e' : Envelope) =>
      e'.start = false
      ∧ e'.divider.toNat = (if e.start = true ∨ e.divider = 0 then vol.toNat else e.divider.toNat - 1)
      ∧ e'.decay.toNat = (if e.start = true then 15 else if e.divider ≠ 0 then e.decay.toNat
          else if e.decay = 0 ∧ halt = true then 15 else e.decay.toNat - 1)
    clocked a.pulse1.vol a.pulse1.halt a.pulse1.env q.pulse1.env
    ∧ clocked a.pulse2.vol a.pulse2.halt a.pulse2.env q.pulse2.env
    ∧ clocked a.noise.vol a.noise.halt a.noise.env q.noise.env
    ∧ q.triangle.linear.toNat
      = (if a.triangle.linReloadFlag = true then a.triangle.linReload.toNat else a.triangle.linear.toNat - 1)
    ∧ q.triangle.linReloadFlag = (a.triangle.linReloadFlag && a.triangle.control)
    ∧ q = { a with
        pulse1 := { a.pulse1 with env := q.pulse1.env }
        pulse2 := { a.pulse2 with env := q.pulse2.env }
        triangle := { a.triangle with linear := q.triangle.linear, linReloadFlag := q.triangle.linReloadFlag }
        noise := { a.noise with env := q.noise.env } })
  ∧ (∀ a : Apu,
    let h := halfFrame a
    let counted := fun (halt : Bool) (l : Byte) => if halt = true then l.toNat else l.toNat - 1
    let swept := fun (first : Bool) (p p' : Pulse) =>
      let change : Int := p.period.toNat / 2 ^ p.sweepShift.toNat
      let target : Int := if p.sweepNeg then p.period.toNat - change - (if first then 1 else 0) else p.period.toNat + change
      let muted := p.period.toNat < 8 ∨ (p.sweepNeg = false ∧ 0x7FF < target)
      (p'.period.toNat : Int)
        = (if p.sweepDiv = 0 ∧ p.sweepEn = true ∧ p.sweepShift ≠ 0 ∧ ¬muted then target else p.period.toNat)
      ∧ p'.sweepDiv.toNat
        = (if p.sweepDiv = 0 ∨ p.sweepReload = true then p.sweepP.toNat else p.sweepDiv.toNat - 1)
      ∧ p'.sweepReload = false
      ∧ p'.length.toNat = counted p.halt p.length
      ∧ p' = { p with period := p'.period, sweepDiv := p'.sweepDiv, sweepReload := false, length := p'.length }
    swept true a.pulse1 h.pulse1 ∧ swept false a.pulse2 h.pulse2
    ∧ h.triangle.length.toNat = counted a.triangle.control a.triangle.length
    ∧ h.noise.length.toNat = counted a.noise.halt a.noise.length
    ∧ h = { a with
        pulse1 := h.pulse1
        pulse2 := h.pulse2
        triangle := { a.triangle with length := h.triangle.length }
        noise := { a.noise with length := h.noise.length } })
  ∧ (∀ s : State, (tick s).pending.irqApu = (s.pending.irqApu
      || (decide (s.apu.cycle + 1 = if s.region = .ntsc then 29829 else 33252) && !s.apu.mode5 && !s.apu.irqInhibit)))
  ∧ (∀ (s : State) (a : Word), (cpuRead s a).2.pending =
      if a = 0x4015 then { s.pending with irqApu := false } else s.pending)
  ∧ (∀ (s : State) (a : Word) (v : Byte),
      (cpuWrite s a v).pending.irqApu = (s.pending.irqApu && !(decide (a = 0x4017) && v.getLsbD 6)))
  ∧ (∀ s : State, let r := (cpuRead s 0x4015).1
      r.getLsbD 7 = s.pending.irqDmc ∧ r.getLsbD 6 = s.pending.irqApu
      ∧ r.getLsbD 4 = decide (0 < s.apu.dmc.bytesRemaining.toNat) ∧ r.getLsbD 3 = decide (0 < s.apu.noise.length.toNat)
      ∧ r.getLsbD 2 = decide (0 < s.apu.triangle.length.toNat) ∧ r.getLsbD 1 = decide (0 < s.apu.pulse2.length.toNat)
      ∧ r.getLsbD 0 = decide (0 < s.apu.pulse1.length.toNat))
  ∧ (∀ (s : State) (a : Word) (v : Byte),
    let t := cpuWrite s a v
    let n := a.toNat
    let lengths : List Byte := [10, 254, 20, 2, 40, 4, 80, 6, 160, 8, 60, 10, 14, 12, 26, 14,
      12, 16, 24, 18, 48, 20, 96, 22, 192, 24, 72, 26, 16, 28, 32, 30]
    let loaded := fun (enabled : Bool) (l : Byte) => if enabled then lengths.getD (v.toNat / 8) 0 else l
    let low := fun p : BitVec 11 => BitVec.ofNat 11 (p.toNat / 256 * 256 + v.toNat)
    let high := fun p : BitVec 11 => BitVec.ofNat 11 (v.toNat % 8 * 256 + p.toNat % 256)
    let pulse := fun (k : Nat) (q : Pulse) =>
      if k = 0 then { q with duty := BitVec.ofNat 2 (v.toNat / 64), halt := v.getLsbD 5, constVol := v.getLsbD 4,
                             vol := BitVec.ofNat 4 v.toNat }
      else if k = 1 then { q with sweepEn := v.getLsbD 7, sweepP := BitVec.ofNat 3 (v.toNat / 16), sweepNeg := v.getLsbD 3,
                                  sweepShift := BitVec.ofNat 3 v.toNat, sweepReload := true }
      else if k = 2 then { q with period := low q.period }
      else { q with period := high q.period, length := loaded q.enabled q.length, step := 0,
                    env := { q.env with start := true } }
    let tri := s.apu.triangle
    let noise := s.apu.noise
    let dmc := s.apu.dmc
    let cleared := { s.pending with irqDmc := false }
    (0x4000 ≤ n → n < 0x4004 → t = { s with apu := { s.apu with pulse1 := pulse (n - 0x4000) s.apu.pulse1 } })
    ∧ (0x4004 ≤ n → n < 0x4008 → t = { s with apu := { s.apu with pulse2 := pulse (n - 0x4004) s.apu.pulse2 } })
    ∧ (n = 0x4008 → t = { s with apu := { s.apu with triangle := { tri with
        control := v.getLsbD 7, linReload := BitVec.ofNat 7 v.toNat } } })
    ∧ (n = 0x400A → t = { s with apu := { s.apu with triangle := { tri with period := low tri.period } } })
    ∧ (n = 0x400B → t = { s with apu := { s.apu with triangle := { tri with
        period := high tri.period, length := loaded tri.enabled tri.length, linReloadFlag := true } } })
    ∧ (n = 0x400C → t = { s with apu := { s.apu with noise := { noise with
        halt := v.getLsbD 5, constVol := v.getLsbD 4, vol := BitVec.ofNat 4 v.toNat } } })
    ∧ (n = 0x400E → t = { s with apu := { s.apu with noise := { noise with
        mode := v.getLsbD 7, periodIdx := BitVec.ofNat 4 v.toNat } } })
    ∧ (n = 0x400F → t = { s with apu := { s.apu with noise := { noise with
        length := loaded noise.enabled noise.length, env := { noise.env with start := true } } } })
    ∧ (n = 0x4009 ∨ n = 0x400D → t = s)
    ∧ (n = 0x4010 → t = { s with
        apu := { s.apu with dmc := { dmc with
          irqEnable := v.getLsbD 7, loop := v.getLsbD 6, rateIdx := BitVec.ofNat 4 v.toNat } }
        pending := if v.getLsbD 7 then s.pending else cleared })
    ∧ (n = 0x4011 → t = { s with apu := { s.apu with dmc := { dmc with outputLevel := BitVec.ofNat 7 v.toNat } } })
    ∧ (n = 0x4012 → t = { s with apu := { s.apu with dmc := { dmc with
        sampleAddress := BitVec.ofNat 16 (0xC000 + 64 * v.toNat) } } })
    ∧ (n = 0x4013 → t = { s with apu := { s.apu with dmc := { dmc with
        sampleLength := BitVec.ofNat 16 (16 * v.toNat + 1) } } })
    ∧ (n = 0x4015 → t = { s with
        apu := { s.apu with
          pulse1 := { s.apu.pulse1 with
            enabled := v.getLsbD 0, length := if v.getLsbD 0 then s.apu.pulse1.length else 0 }
          pulse2 := { s.apu.pulse2 with
            enabled := v.getLsbD 1, length := if v.getLsbD 1 then s.apu.pulse2.length else 0 }
          triangle := { tri with enabled := v.getLsbD 2, length := if v.getLsbD 2 then tri.length else 0 }
          noise := { noise with enabled := v.getLsbD 3, length := if v.getLsbD 3 then noise.length else 0 }
          dmc := if v.getLsbD 4 then
              (if dmc.bytesRemaining = 0 then
                { dmc with currentAddress := dmc.sampleAddress, bytesRemaining := BitVec.ofNat 12 dmc.sampleLength.toNat
                           fetchPending := dmc.fetchPending
                             || (dmc.buffer.isNone && decide (dmc.sampleLength.toNat % 4096 ≠ 0)) }
              else dmc)
            else { dmc with bytesRemaining := 0 } }
        pending := cleared })
    ∧ (n = 0x4017 →
      let f := { s.apu with mode5 := v.getLsbD 7, irqInhibit := v.getLsbD 6, seqRestart := true }
      t = { s with
        apu := if v.getLsbD 7 then halfFrame (quarterFrame f) else f
        pending := if v.getLsbD 6 then { s.pending with irqApu := false } else s.pending }
      ∧ (tick t).apu.cycle = 0 ∧ (tick t).apu.seqRestart = false))
end

