-- ==== Sys2Proof/Laws/State.lean ====
section
/-! SUPPORT. Every update of State as seen by every field: true by rfl, so that no proof unfolds a record update. -/

namespace Sys2Proof.Machine

@[simp] theorem State.setCpu_cpu (s : State) (c : Cpu) : (s.setCpu c).cpu = c := rfl
@[simp] theorem State.setCpu_pending (s : State) (c : Cpu) : (s.setCpu c).pending = s.pending := rfl
@[simp] theorem State.setCpu_ram (s : State) (c : Cpu) : (s.setCpu c).ram = s.ram := rfl
@[simp] theorem State.setCpu_oamDma (s : State) (c : Cpu) : (s.setCpu c).oamDma = s.oamDma := rfl
@[simp] theorem State.setCpu_strobe (s : State) (c : Cpu) : (s.setCpu c).strobe = s.strobe := rfl
@[simp] theorem State.setCpu_present (s : State) (c : Cpu) : (s.setCpu c).present = s.present := rfl
@[simp] theorem State.setCpu_cart (s : State) (c : Cpu) : (s.setCpu c).cart = s.cart := rfl
@[simp] theorem State.setCpu_mapper (s : State) (c : Cpu) : (s.setCpu c).mapper = s.mapper := rfl
@[simp] theorem State.setCpu_prgRam (s : State) (c : Cpu) : (s.setCpu c).prgRam = s.prgRam := rfl
@[simp] theorem State.setCpu_chrRam (s : State) (c : Cpu) : (s.setCpu c).chrRam = s.chrRam := rfl
@[simp] theorem State.setCpu_ppu (s : State) (c : Cpu) : (s.setCpu c).ppu = s.ppu := rfl
@[simp] theorem State.setCpu_apu (s : State) (c : Cpu) : (s.setCpu c).apu = s.apu := rfl
@[simp] theorem State.setCpu_palPhase (s : State) (c : Cpu) : (s.setCpu c).palPhase = s.palPhase := rfl
@[simp] theorem State.setCpu_cycles (s : State) (c : Cpu) : (s.setCpu c).cycles = s.cycles := rfl
@[simp] theorem State.setCpu_regionOverride (s : State) (c : Cpu) : (s.setCpu c).regionOverride = s.regionOverride := rfl
@[simp] theorem State.setCpu_params (s : State) (c : Cpu) : (s.setCpu c).params = s.params := rfl
@[simp] theorem State.setCpu_draws (s : State) (c : Cpu) : (s.setCpu c).draws = s.draws := rfl
@[simp] theorem State.setCpu_region (s : State) (c : Cpu) : (s.setCpu c).region = s.region := rfl

@[simp] theorem State.setPc_cpu (s : State) (a : Word) : (s.setPc a).cpu = { s.cpu with pc := a } := rfl
@[simp] theorem State.setPc_pending (s : State) (a : Word) : (s.setPc a).pending = s.pending := rfl
@[simp] theorem State.setPc_ram (s : State) (a : Word) : (s.setPc a).ram = s.ram := rfl
@[simp] theorem State.setPc_oamDma (s : State) (a : Word) : (s.setPc a).oamDma = s.oamDma := rfl
@[simp] theorem State.setPc_strobe (s : State) (a : Word) : (s.setPc a).strobe = s.strobe := rfl
@[simp] theorem State.setPc_present (s : State) (a : Word) : (s.setPc a).present = s.present := rfl
@[simp] theorem State.setPc_cart (s : State) (a : Word) : (s.setPc a).cart = s.cart := rfl
@[simp] theorem State.setPc_mapper (s : State) (a : Word) : (s.setPc a).mapper = s.mapper := rfl
@[simp] theorem State.setPc_prgRam (s : State) (a : Word) : (s.setPc a).prgRam = s.prgRam := rfl
@[simp] theorem State.setPc_chrRam (s : State) (a : Word) : (s.setPc a).chrRam = s.chrRam := rfl
@[simp] theorem State.setPc_ppu (s : State) (a : Word) : (s.setPc a).ppu = s.ppu := rfl
@[simp] theorem State.setPc_apu (s : State) (a : Word) : (s.setPc a).apu = s.apu := rfl
@[simp] theorem State.setPc_palPhase (s : State) (a : Word) : (s.setPc a).palPhase = s.palPhase := rfl
@[simp] theorem State.setPc_cycles (s : State) (a : Word) : (s.setPc a).cycles = s.cycles := rfl
@[simp] theorem State.setPc_regionOverride (s : State) (a : Word) : (s.setPc a).regionOverride = s.regionOverride := rfl
@[simp] theorem State.setPc_params (s : State) (a : Word) : (s.setPc a).params = s.params := rfl
@[simp] theorem State.setPc_draws (s : State) (a : Word) : (s.setPc a).draws = s.draws := rfl
@[simp] theorem State.setPc_region (s : State) (a : Word) : (s.setPc a).region = s.region := rfl

@[simp] theorem State.setS_cpu (s : State) (v : Byte) : (s.setS v).cpu = { s.cpu with s := v } := rfl
@[simp] theorem State.setS_pending (s : State) (v : Byte) : (s.setS v).pending = s.pending := rfl
@[simp] theorem State.setS_ram (s : State) (v : Byte) : (s.setS v).ram = s.ram := rfl
@[simp] theorem State.setS_oamDma (s : State) (v : Byte) : (s.setS v).oamDma = s.oamDma := rfl
@[simp] theorem State.setS_strobe (s : State) (v : Byte) : (s.setS v).strobe = s.strobe := rfl
@[simp] theorem State.setS_present (s : State) (v : Byte) : (s.setS v).present = s.present := rfl
@[simp] theorem State.setS_cart (s : State) (v : Byte) : (s.setS v).cart = s.cart := rfl
@[simp] theorem State.setS_mapper (s : State) (v : Byte) : (s.setS v).mapper = s.mapper := rfl
@[simp] theorem State.setS_prgRam (s : State) (v : Byte) : (s.setS v).prgRam = s.prgRam := rfl
@[simp] theorem State.setS_chrRam (s : State) (v : Byte) : (s.setS v).chrRam = s.chrRam := rfl
@[simp] theorem State.setS_ppu (s : State) (v : Byte) : (s.setS v).ppu = s.ppu := rfl
@[simp] theorem State.setS_apu (s : State) (v : Byte) : (s.setS v).apu = s.apu := rfl
@[simp] theorem State.setS_palPhase (s : State) (v : Byte) : (s.setS v).palPhase = s.palPhase := rfl
@[simp] theorem State.setS_cycles (s : State) (v : Byte) : (s.setS v).cycles = s.cycles := rfl
@[simp] theorem State.setS_regionOverride (s : State) (v : Byte) : (s.setS v).regionOverride = s.regionOverride := rfl
@[simp] theorem State.setS_params (s : State) (v : Byte) : (s.setS v).params = s.params := rfl
@[simp] theorem State.setS_draws (s : State) (v : Byte) : (s.setS v).draws = s.draws := rfl
@[simp] theorem State.setS_region (s : State) (v : Byte) : (s.setS v).region = s.region := rfl

@[simp] theorem State.setCpu_setCpu (s : State) (c d : Cpu) : (s.setCpu c).setCpu d = s.setCpu d := rfl
@[simp] theorem State.setPc_setCpu (s : State) (a : Word) (d : Cpu) : (s.setPc a).setCpu d = s.setCpu d := rfl
@[simp] theorem State.setS_setCpu (s : State) (v : Byte) (d : Cpu) : (s.setS v).setCpu d = s.setCpu d := rfl
theorem State.setPc_eq (s : State) (a : Word) : s.setPc a = s.setCpu { s.cpu with pc := a } := rfl
theorem State.setS_eq (s : State) (v : Byte) : s.setS v = s.setCpu { s.cpu with s := v } := rfl
@[simp] theorem State.setCpu_self (s : State) : s.setCpu s.cpu = s := rfl

/-! ## Registers under the flag updates -/

@[simp] theorem setNZ_a (c : Cpu) (v : Byte) : (setNZ c v).a = c.a := rfl
@[simp] theorem setNZ_x (c : Cpu) (v : Byte) : (setNZ c v).x = c.x := rfl
@[simp] theorem setNZ_y (c : Cpu) (v : Byte) : (setNZ c v).y = c.y := rfl
@[simp] theorem setNZ_s (c : Cpu) (v : Byte) : (setNZ c v).s = c.s := rfl
@[simp] theorem setNZ_pc (c : Cpu) (v : Byte) : (setNZ c v).pc = c.pc := rfl
@[simp] theorem setNZ_v (c : Cpu) (v : Byte) : (setNZ c v).v = c.v := rfl
@[simp] theorem setNZ_d (c : Cpu) (v : Byte) : (setNZ c v).d = c.d := rfl
@[simp] theorem setNZ_i (c : Cpu) (v : Byte) : (setNZ c v).i = c.i := rfl
@[simp] theorem setNZ_c (c : Cpu) (v : Byte) : (setNZ c v).c = c.c := rfl
@[simp] theorem setNZ_halted (c : Cpu) (v : Byte) : (setNZ c v).halted = c.halted := rfl
@[simp] theorem setNZ_fault (c : Cpu) (v : Byte) : (setNZ c v).fault = c.fault := rfl
@[simp] theorem setNZ_n (c : Cpu) (v : Byte) : (setNZ c v).n = v.getLsbD 7 := rfl
@[simp] theorem setNZ_z (c : Cpu) (v : Byte) : (setNZ c v).z = decide (v = 0) := rfl
@[simp] theorem unpackP_a (c : Cpu) (v : Byte) : (unpackP c v).a = c.a := rfl
@[simp] theorem unpackP_x (c : Cpu) (v : Byte) : (unpackP c v).x = c.x := rfl
@[simp] theorem unpackP_y (c : Cpu) (v : Byte) : (unpackP c v).y = c.y := rfl
@[simp] theorem unpackP_s (c : Cpu) (v : Byte) : (unpackP c v).s = c.s := rfl
@[simp] theorem unpackP_pc (c : Cpu) (v : Byte) : (unpackP c v).pc = c.pc := rfl
@[simp] theorem unpackP_halted (c : Cpu) (v : Byte) : (unpackP c v).halted = c.halted := rfl
@[simp] theorem unpackP_fault (c : Cpu) (v : Byte) : (unpackP c v).fault = c.fault := rfl

end Sys2Proof.Machine
end

