-- ==== Sys2Proof/Laws/Memory.lean ====
section
/-! SUPPORT. Sparse storage: what a read gives after a write, and that every operation keeps the canonical form. -/

namespace Sys2Proof.Machine

/-! ## Reading -/

theorem sparseLookup_erase {α : Type} (m : List (Nat × α)) (a b : Nat) :
    sparseLookup (sparseErase m a) b = if b = a then none else sparseLookup m b := by
  induction m with
  | nil => simp [sparseErase, sparseLookup]
  | cons e m ih =>
    obtain ⟨k, u⟩ := e
    by_cases hak : a = k
    · subst hak
      simp only [sparseErase, ↓reduceIte, ih, sparseLookup]
      by_cases hba : b = a <;> simp [hba]
    · by_cases hbk : b = k
      · subst hbk; simp [sparseErase, sparseLookup, hak, Ne.symm hak]
      · simp [sparseErase, sparseLookup, hak, hbk, ih]

theorem sparseLookup_insert {α : Type} (m : List (Nat × α)) (a : Nat) (v : α) (b : Nat) :
    sparseLookup (sparseInsert m a v) b = if b = a then some v else sparseLookup m b := by
  induction m with
  | nil => simp [sparseInsert, sparseLookup]
  | cons e m ih =>
    obtain ⟨k, u⟩ := e
    by_cases hlt : a < k
    · simp [sparseInsert, sparseLookup, hlt]
    · by_cases hak : a = k
      · subst hak
        by_cases hba : b = a <;> simp [sparseInsert, sparseLookup, hba]
      · by_cases hbk : b = k
        · subst hbk; simp [sparseInsert, sparseLookup, hlt, hak, Ne.symm hak]
        · simp [sparseInsert, sparseLookup, hlt, hak, hbk, ih]

/-- A read after a write, of any list at all. -/
theorem sparseRead_write {w : Nat} (m : Sparse w) (a : Nat) (v : BitVec w) (b : Nat) :
    sparseRead (sparseWrite m a v) b = if b = a then v else sparseRead m b := by
  unfold sparseRead sparseWrite
  by_cases hv : v = 0
  · simp only [hv, ↓reduceIte, sparseLookup_erase]
    by_cases h : b = a <;> simp [h]
  · simp only [hv, ↓reduceIte, sparseLookup_insert]
    by_cases h : b = a <;> simp [h]

theorem sparseRead_write_same {w : Nat} (m : Sparse w) (a : Nat) (v : BitVec w) :
    sparseRead (sparseWrite m a v) a = v := by simp [sparseRead_write]

theorem sparseRead_write_other {w : Nat} (m : Sparse w) {a b : Nat} (v : BitVec w) (h : b ≠ a) :
    sparseRead (sparseWrite m a v) b = sparseRead m b := by simp [sparseRead_write, h]

/-! ## The canonical form -/

theorem risingWithin_mono {α : Type} {hi lo lo' : Nat} (h : lo' ≤ lo) (m : List (Nat × α))
    (hm : risingWithin hi lo m = true) : risingWithin hi lo' m = true := by
  cases m with
  | nil => rfl
  | cons e m =>
    obtain ⟨k, u⟩ := e
    simp only [risingWithin, Bool.and_eq_true, decide_eq_true_eq] at hm ⊢
    exact ⟨⟨by omega, hm.1.2⟩, hm.2⟩

theorem risingWithin_erase {α : Type} {hi : Nat} (m : List (Nat × α)) (lo a : Nat)
    (hm : risingWithin hi lo m = true) : risingWithin hi lo (sparseErase m a) = true := by
  induction m generalizing lo with
  | nil => rfl
  | cons e m ih =>
    obtain ⟨k, u⟩ := e
    simp only [risingWithin, Bool.and_eq_true, decide_eq_true_eq] at hm
    simp only [sparseErase]
    split
    · exact risingWithin_mono (by omega) _ (ih (k + 1) hm.2)
    · simp only [risingWithin, Bool.and_eq_true, decide_eq_true_eq]
      exact ⟨hm.1, ih _ hm.2⟩

theorem risingWithin_insert {α : Type} {hi : Nat} (m : List (Nat × α)) (lo a : Nat) (v : α)
    (hlo : lo ≤ a) (hhi : a < hi) (hm : risingWithin hi lo m = true) :
    risingWithin hi lo (sparseInsert m a v) = true := by
  induction m generalizing lo with
  | nil => simp [sparseInsert, risingWithin, hlo, hhi]
  | cons e m ih =>
    obtain ⟨k, u⟩ := e
    simp only [risingWithin, Bool.and_eq_true, decide_eq_true_eq] at hm
    simp only [sparseInsert]
    split
    · simp only [risingWithin, Bool.and_eq_true, decide_eq_true_eq]
      exact ⟨⟨hlo, hhi⟩, ⟨by omega, hm.1.2⟩, hm.2⟩
    · split
      · subst a
        simp only [risingWithin, Bool.and_eq_true, decide_eq_true_eq]
        exact hm
      · simp only [risingWithin, Bool.and_eq_true, decide_eq_true_eq]
        exact ⟨hm.1, ih _ (by omega) hm.2⟩

theorem mem_sparseErase {α : Type} {m : List (Nat × α)} {a : Nat} {e : Nat × α}
    (h : e ∈ sparseErase m a) : e ∈ m := by
  induction m with
  | nil => exact h
  | cons f m ih =>
    obtain ⟨k, u⟩ := f
    simp only [sparseErase] at h
    split at h
    · exact List.mem_cons_of_mem _ (ih h)
    · rcases List.mem_cons.1 h with rfl | h
      · exact List.mem_cons_self
      · exact List.mem_cons_of_mem _ (ih h)

theorem mem_sparseInsert {α : Type} {m : List (Nat × α)} {a : Nat} {v : α} {e : Nat × α}
    (h : e ∈ sparseInsert m a v) : e = (a, v) ∨ e ∈ m := by
  induction m with
  | nil => simpa [sparseInsert] using h
  | cons f m ih =>
    obtain ⟨k, u⟩ := f
    simp only [sparseInsert] at h
    split at h
    · simpa using h
    · split at h
      · rcases List.mem_cons.1 h with h | h
        · exact .inl h
        · exact .inr (List.mem_cons_of_mem _ h)
      · rcases List.mem_cons.1 h with rfl | h
        · exact .inr List.mem_cons_self
        · rcases ih h with h | h
          · exact .inl h
          · exact .inr (List.mem_cons_of_mem _ h)

theorem sparseWf_nil {w : Nat} (size : Nat) : sparseWf size ([] : Sparse w) = true := rfl

theorem sparseWf_erase {w size : Nat} (m : Sparse w) (a : Nat) (hm : sparseWf size m = true) :
    sparseWf size (sparseErase m a) = true := by
  simp only [sparseWf, Bool.and_eq_true, List.all_eq_true, decide_eq_true_eq] at hm ⊢
  exact ⟨risingWithin_erase m 0 a hm.1, fun e he => hm.2 e (mem_sparseErase he)⟩

/-- Every write keeps the canonical form. -/
theorem sparseWf_write {w size : Nat} (m : Sparse w) (a : Nat) (v : BitVec w) (ha : a < size)
    (hm : sparseWf size m = true) : sparseWf size (sparseWrite m a v) = true := by
  unfold sparseWrite
  split
  · exact sparseWf_erase m a hm
  · rename_i hv
    simp only [sparseWf, Bool.and_eq_true, List.all_eq_true, decide_eq_true_eq] at hm ⊢
    refine ⟨risingWithin_insert m 0 a v (Nat.zero_le _) ha hm.1, fun e he => ?_⟩
    rcases mem_sparseInsert he with rfl | he
    · exact hv
    · exact hm.2 e he

theorem sparseWf_clear {w size : Nat} (n lo : Nat) (m : Sparse w) (hm : sparseWf size m = true) :
    sparseWf size (sparseClear n lo m) = true := by
  induction n generalizing lo m with
  | zero => exact hm
  | succ n ih => exact ih _ _ (sparseWf_erase m lo hm)

theorem sparseOfList_rising {w size : Nat} (vs : List (BitVec w)) (lo lo' : Nat) (hl : lo' ≤ lo)
    (h : lo + vs.length ≤ size) :
    risingWithin size lo' (sparseOfList lo vs) = true ∧ ∀ e ∈ sparseOfList lo vs, e.2 ≠ 0 := by
  induction vs generalizing lo lo' with
  | nil => exact ⟨rfl, by simp [sparseOfList]⟩
  | cons v vs ih =>
    simp only [List.length_cons] at h
    simp only [sparseOfList]
    split
    · exact ih _ _ (by omega) (by omega)
    · rename_i hv
      have := ih (lo + 1) (lo + 1) le_rfl (by omega)
      refine ⟨?_, ?_⟩
      · simp only [risingWithin, Bool.and_eq_true, decide_eq_true_eq]
        exact ⟨⟨hl, by omega⟩, this.1⟩
      · intro e he
        rcases List.mem_cons.1 he with rfl | he
        · exact hv
        · exact this.2 e he

theorem sparseWf_ofList {w size : Nat} (vs : List (BitVec w)) (h : vs.length ≤ size) :
    sparseWf size (sparseOfList 0 vs) = true := by
  have := sparseOfList_rising (size := size) vs 0 0 le_rfl (by omega)
  simp only [sparseWf, Bool.and_eq_true, List.all_eq_true, decide_eq_true_eq]
  exact this

/-- The memory of `State.reset` has the canonical form. -/
theorem reset_memoryWf : State.reset.memoryWf = true := by decide

end Sys2Proof.Machine
end

