-- ==== Sys2Proof/Laws/Frame.lean ====
section
/-! SUPPORT. What each shared operation of the bus, of device time and of the PPU can change: the frame lemmas that later
proofs cite instead of unfolding the operation. -/

namespace Sys2Proof.Machine

/-! ## The relations -/

theorem SameBanking.refl (m : Mapper) : SameBanking m m :=
  ⟨rfl, rfl, rfl, rfl, rfl, rfl, fun _ => rfl⟩

theorem SameBanking.trans {m n o : Mapper} (h : SameBanking m n) (g : SameBanking n o) : SameBanking m o :=
  ⟨g.1.trans h.1, g.2.trans h.2, g.3.trans h.3, g.4.trans h.4, g.5.trans h.5, g.6.trans h.6, fun a => (g.7 a).trans (h.7 a)⟩

theorem SameBoard.refl (s : State) : SameBoard s s := ⟨rfl, rfl, rfl, rfl⟩

theorem SameBoard.trans {s t u : State} (h : SameBoard s t) (g : SameBoard t u) : SameBoard s u :=
  ⟨g.1.trans h.1, g.2.trans h.2, g.3.trans h.3, g.4.trans h.4⟩

theorem SameBoard.region {s t : State} (h : SameBoard s t) : t.region = s.region := by
  simp only [State.region, h.cart, h.present, h.regionOverride]

theorem SameVideo.refl (s : State) : SameVideo s s := ⟨rfl, rfl, rfl, rfl⟩

theorem SameVideo.trans {s t u : State} (h : SameVideo s t) (g : SameVideo t u) : SameVideo s u :=
  ⟨g.1.trans h.1, g.2.trans h.2, g.3.trans h.3, g.4.trans h.4⟩

theorem SameMemory.refl (s : State) : SameMemory s s := ⟨.refl s, .refl s, .refl _, rfl, rfl, rfl, rfl⟩

theorem SameMemory.trans {s t u : State} (h : SameMemory s t) (g : SameMemory t u) : SameMemory s u :=
  ⟨h.1.trans g.1, h.2.trans g.2, h.3.trans g.3, g.4.trans h.4, g.5.trans h.5, g.6.trans h.6, g.7.trans h.7⟩

theorem SameMemory.setCpu {s t : State} (h : SameMemory s t) (c : Cpu) : SameMemory s (t.setCpu c) :=
  ⟨⟨h.1.1, h.1.2, h.1.3, h.1.4⟩, ⟨h.2.1, h.2.2, h.2.3, h.2.4⟩, h.3, h.4, h.5, h.6, h.7⟩

theorem SameMemory.of_setCpu {s t : State} {c : Cpu} (h : SameMemory (s.setCpu c) t) : SameMemory s t :=
  ⟨⟨h.1.1, h.1.2, h.1.3, h.1.4⟩, ⟨h.2.1, h.2.2, h.2.3, h.2.4⟩, h.3, h.4, h.5, h.6, h.7⟩

theorem SameMemory.butRam {s t : State} (h : SameMemory s t) : SameButRam s t := ⟨h.1, h.2, h.3, h.5, h.6, h.7⟩

theorem SameButRam.refl (s : State) : SameButRam s s := (SameMemory.refl s).butRam

theorem SameButRam.trans {s t u : State} (h : SameButRam s t) (g : SameButRam t u) : SameButRam s u :=
  ⟨h.1.trans g.1, h.2.trans g.2, h.3.trans g.3, g.4.trans h.4, g.5.trans h.5, g.6.trans h.6⟩

/-- A state whose memory is the same shows the same byte at every address. -/
theorem SameMemory.memByte {s t : State} (h : SameMemory s t) (a : Word) : memByte t a = memByte s a := by
  simp only [Machine.memByte, prgRomOffset, prgRamOffset, h.ram, h.prgRam, h.board.cart, h.banking.prgMap,
    h.banking.prgRamMap, h.banking.prgRamOn]
  rfl

/-! ## The PPU -/

/-- The PPU's own memories are unchanged. -/
structure SamePpuMemory (p q : Ppu) : Prop where
  oam     : q.oam = p.oam
  palette : q.palette = p.palette
  ntram   : q.ntram = p.ntram

theorem SamePpuMemory.refl (p : Ppu) : SamePpuMemory p p := ⟨rfl, rfl, rfl⟩

theorem SamePpuMemory.trans {p q r : Ppu} (h : SamePpuMemory p q) (g : SamePpuMemory q r) : SamePpuMemory p r :=
  ⟨g.1.trans h.1, g.2.trans h.2, g.3.trans h.3⟩

theorem SamePpuMemory.ite {p q r : Ppu} {c : Prop} [Decidable c] (h : SamePpuMemory p q) (g : SamePpuMemory p r) :
    SamePpuMemory p (if c then q else r) := by split <;> assumption

theorem spriteFetch_memory (s : State) (y d : Nat) (p : Ppu) : SamePpuMemory p (spriteFetch s y d p) := by
  unfold spriteFetch
  simp only
  split
  · exact .refl p
  · split <;> exact ⟨rfl, rfl, rfl⟩

theorem bgStage_memory (d : Nat) (p : Ppu) : SamePpuMemory p (bgStage d p) := .ite ⟨rfl, rfl, rfl⟩ (.refl p)

theorem pixelStage_memory (y d : Nat) (p : Ppu) : SamePpuMemory p (pixelStage y d p) := .ite ⟨rfl, rfl, rfl⟩ (.refl p)

theorem fetchStage_memory (s : State) (pre : Bool) (d : Nat) (p : Ppu) : SamePpuMemory p (fetchStage s pre d p) :=
  .ite ⟨rfl, rfl, rfl⟩ (.refl p)

theorem evaluateStage_memory (bug : Bool) (y d : Nat) (p : Ppu) : SamePpuMemory p (evaluateStage bug y d p) :=
  .ite (.ite ⟨rfl, rfl, rfl⟩ ⟨rfl, rfl, rfl⟩) (.refl p)

theorem spriteStage_memory (s : State) (y d : Nat) (p : Ppu) : SamePpuMemory p (spriteStage s y d p) :=
  .ite ⟨(spriteFetch_memory s y d p).1, (spriteFetch_memory s y d p).2, (spriteFetch_memory s y d p).3⟩ (.refl p)

theorem visibleDot_memory (s : State) (y d : Nat) (p : Ppu) : SamePpuMemory p (visibleDot s y d p) :=
  ((((bgStage_memory d p).trans (pixelStage_memory y d _)).trans (fetchStage_memory s false d _)).trans
    (evaluateStage_memory _ y d _)).trans (spriteStage_memory s y d _)

theorem preRenderDot_memory (s : State) (d : Nat) (p : Ppu) : SamePpuMemory p (preRenderDot s d p) := by
  have h1 : SamePpuMemory p (clearFlagsStage d p) := .ite ⟨rfl, rfl, rfl⟩ (.refl p)
  have h2 : ∀ q, SamePpuMemory q (preRenderSprites d q) := by
    intro q
    unfold preRenderSprites
    simp only
    repeat' split
    all_goals exact ⟨rfl, rfl, rfl⟩
  exact ((h1.trans (bgStage_memory d _)).trans (fetchStage_memory s true d _)).trans (h2 _)

theorem dotEvents_memory (s : State) : SamePpuMemory s.ppu (dotEvents s) := by
  unfold dotEvents
  split
  · exact preRenderDot_memory s _ _
  · exact visibleDot_memory s _ _ _
  · exact .ite ⟨rfl, rfl, rfl⟩ (.refl _)

theorem beamAdvance_memory (r : Region) (p : Ppu) : SamePpuMemory p (beamAdvance r p) := by
  unfold beamAdvance
  exact .ite (.ite ⟨rfl, rfl, rfl⟩ ⟨rfl, rfl, rfl⟩) ⟨rfl, rfl, rfl⟩

theorem mapperTick_banking (m : Mapper) : SameBanking m (mapperTick m) := by
  unfold mapperTick
  split
  · rename_i h
    exact ⟨rfl, rfl, rfl, rfl, rfl, rfl, fun _ => by simp only [h, Chip.registerAt]⟩
  · exact .refl _

/-- A PPU clock writes no memory and banks nothing. -/
theorem ppuDot_same (s : State) : SameMemory s (ppuDot s) := by
  have h := (dotEvents_memory s).trans (beamAdvance_memory s.region (dotEvents s))
  refine ⟨⟨rfl, rfl, rfl, rfl⟩, ⟨rfl, h.1, h.2, h.3⟩, ?_, rfl, rfl, rfl, rfl⟩
  show SameBanking s.mapper (if _ then _ else _)
  split
  · exact mapperTick_banking _
  · exact .refl _

/-- A PPU clock as three updates. -/
theorem ppuDot_eq (s : State) : ppuDot s =
    { s with ppu := (ppuDot s).ppu, pending := (ppuDot s).pending, mapper := (ppuDot s).mapper } := by
  simp only [ppuDot]

@[simp] theorem ppuDot_cpu (s : State) : (ppuDot s).cpu = s.cpu := by rw [ppuDot_eq]
@[simp] theorem ppuDot_cycles (s : State) : (ppuDot s).cycles = s.cycles := by rw [ppuDot_eq]
@[simp] theorem ppuDot_palPhase (s : State) : (ppuDot s).palPhase = s.palPhase := by rw [ppuDot_eq]
@[simp] theorem ppuDot_draws (s : State) : (ppuDot s).draws = s.draws := by rw [ppuDot_eq]
@[simp] theorem ppuDot_apu (s : State) : (ppuDot s).apu = s.apu := by rw [ppuDot_eq]

/-! Nothing but the CPU reads the CPU's registers. -/

theorem ppuRead_setCpu (s : State) (c : Cpu) (a : BitVec 14) : ppuRead (s.setCpu c) a = ppuRead s a := rfl

theorem bgFetch_setCpu (s : State) (c : Cpu) (d : Nat) (p : Ppu) : bgFetch (s.setCpu c) d p = bgFetch s d p := by
  unfold bgFetch; simp only [ppuRead_setCpu]

theorem fetchStage_setCpu (s : State) (c : Cpu) (pre : Bool) (d : Nat) (p : Ppu) :
    fetchStage (s.setCpu c) pre d p = fetchStage s pre d p := by
  unfold fetchStage fetchClock; simp only [bgFetch_setCpu]

theorem spriteStage_setCpu (s : State) (c : Cpu) (y d : Nat) (p : Ppu) :
    spriteStage (s.setCpu c) y d p = spriteStage s y d p := by
  unfold spriteStage spriteFetch; simp only [ppuRead_setCpu]

theorem dotEvents_setCpu (s : State) (c : Cpu) : dotEvents (s.setCpu c) = dotEvents s := by
  unfold dotEvents visibleDot preRenderDot
  simp only [State.setCpu_ppu, State.setCpu_params, fetchStage_setCpu, spriteStage_setCpu]
  rfl

theorem ppuDot_setCpu (s : State) (c : Cpu) : ppuDot (s.setCpu c) = (ppuDot s).setCpu c := by
  unfold ppuDot dotPending
  simp only [dotEvents_setCpu, State.setCpu_ppu, State.setCpu_mapper, State.setCpu_region, State.setCpu_pending]
  rfl

theorem ppuDots_same (n : Nat) (s : State) : SameMemory s (ppuDots n s) := by
  induction n generalizing s with
  | zero => exact .refl s
  | succ n ih => exact (ppuDot_same s).trans (ih _)

@[simp] theorem ppuDots_cpu (n : Nat) (s : State) : (ppuDots n s).cpu = s.cpu := by
  induction n generalizing s with
  | zero => rfl
  | succ n ih => rw [ppuDots, ih, ppuDot_cpu]

@[simp] theorem ppuDots_cycles (n : Nat) (s : State) : (ppuDots n s).cycles = s.cycles := by
  induction n generalizing s with
  | zero => rfl
  | succ n ih => rw [ppuDots, ih, ppuDot_cycles]

@[simp] theorem ppuDots_draws (n : Nat) (s : State) : (ppuDots n s).draws = s.draws := by
  induction n generalizing s with
  | zero => rfl
  | succ n ih => rw [ppuDots, ih, ppuDot_draws]

@[simp] theorem ppuDots_apu (n : Nat) (s : State) : (ppuDots n s).apu = s.apu := by
  induction n generalizing s with
  | zero => rfl
  | succ n ih => rw [ppuDots, ih, ppuDot_apu]

@[simp] theorem ppuDots_palPhase (n : Nat) (s : State) : (ppuDots n s).palPhase = s.palPhase := by
  induction n generalizing s with
  | zero => rfl
  | succ n ih => rw [ppuDots, ih, ppuDot_palPhase]

theorem ppuDots_setCpu (n : Nat) (s : State) (c : Cpu) : ppuDots n (s.setCpu c) = (ppuDots n s).setCpu c := by
  induction n generalizing s with
  | zero => rfl
  | succ n ih => rw [ppuDots, ppuDot_setCpu, ih, ppuDots]

/-! ## A CPU cycle -/

/-- A CPU cycle writes no memory and banks nothing. -/
theorem tick_same (s : State) : SameMemory s (tick s) := by
  have h : SameMemory s (apuTick s) := ⟨⟨rfl, rfl, rfl, rfl⟩, ⟨rfl, rfl, rfl, rfl⟩, .refl _, rfl, rfl, rfl, rfl⟩
  exact h.trans (ppuDots_same _ _)

@[simp] theorem tick_cpu (s : State) : (tick s).cpu = s.cpu := by simp [tick, apuTick]
@[simp] theorem tick_cycles (s : State) : (tick s).cycles = s.cycles + 1 := by simp [tick, apuTick]
@[simp] theorem tick_draws (s : State) : (tick s).draws = s.draws := by simp [tick, apuTick]
@[simp] theorem tick_apu (s : State) : (tick s).apu = apuCycle s.region s.apu := by simp [tick, apuTick]
theorem tick_setCpu (s : State) (c : Cpu) : tick (s.setCpu c) = (tick s).setCpu c := by
  have h : apuTick (s.setCpu c) = (apuTick s).setCpu c := rfl
  rw [tick, h, ppuDots_setCpu]; rfl

theorem ticks_same (n : Nat) (s : State) : SameMemory s (ticks n s) := by
  induction n generalizing s with
  | zero => exact .refl s
  | succ n ih => exact (tick_same s).trans (ih _)

@[simp] theorem ticks_cpu (n : Nat) (s : State) : (ticks n s).cpu = s.cpu := by
  induction n generalizing s with
  | zero => rfl
  | succ n ih => simp [ticks, ih]

@[simp] theorem ticks_cycles (n : Nat) (s : State) : (ticks n s).cycles = s.cycles + n := by
  induction n generalizing s with
  | zero => rfl
  | succ n ih => simp [ticks, ih]; omega

theorem ticks_setCpu (n : Nat) (s : State) (c : Cpu) : ticks n (s.setCpu c) = (ticks n s).setCpu c := by
  induction n generalizing s with
  | zero => rfl
  | succ n ih => simp only [ticks, tick_setCpu, ih]

/-! ## A read -/

/-- What a read leaves: everything but the PPU's and the APU's read side effects and the draws. -/
theorem cpuRead_same (s : State) (a : Word) : SameMemory s (cpuRead s a).2 := by
  unfold cpuRead ppuRegRead ppuStatusRead ppuDataRead apuStatusRead inputPortRead prgRamRead prgRomRead drawOpenBus
  simp only
  repeat' split
  all_goals first
    | exact .refl s
    | exact ⟨⟨rfl, rfl, rfl, rfl⟩, ⟨rfl, rfl, rfl, rfl⟩, .refl _, rfl, rfl, rfl, rfl⟩

@[simp] theorem cpuRead_cpu (s : State) (a : Word) : (cpuRead s a).2.cpu = s.cpu := by
  unfold cpuRead ppuRegRead ppuStatusRead ppuDataRead apuStatusRead inputPortRead prgRamRead prgRomRead drawOpenBus
  simp only
  repeat' split
  all_goals rfl

@[simp] theorem cpuRead_cycles (s : State) (a : Word) : (cpuRead s a).2.cycles = s.cycles := by
  unfold cpuRead ppuRegRead ppuStatusRead ppuDataRead apuStatusRead inputPortRead prgRamRead prgRomRead drawOpenBus
  simp only
  repeat' split
  all_goals rfl

theorem ppuRegRead_setCpu (s : State) (c : Cpu) (r : Nat) :
    ppuRegRead (s.setCpu c) r = ((ppuRegRead s r).1, (ppuRegRead s r).2.setCpu c) := by
  unfold ppuRegRead
  split
  · rfl
  · rfl
  · unfold ppuDataRead
    by_cases h : (s.ppu.v.setWidth 14 : BitVec 14) < 0x3F00 <;>
      simp only [State.setCpu_ppu, ppuRead_setCpu, h, ↓reduceIte] <;> rfl
  · rfl

theorem cpuRead_setCpu (s : State) (c : Cpu) (a : Word) :
    cpuRead (s.setCpu c) a = ((cpuRead s a).1, (cpuRead s a).2.setCpu c) := by
  have h1 : ∀ n, prgRamRead (s.setCpu c) n = ((prgRamRead s n).1, (prgRamRead s n).2.setCpu c) := by
    intro n
    unfold prgRamRead
    by_cases h : s.mapper.prgRamOn = true ∧ 0 < s.cart.prgRamSize
    · simp only [State.setCpu_mapper, State.setCpu_cart, h, ↓reduceIte, and_self]; rfl
    · simp only [State.setCpu_mapper, State.setCpu_cart, h, ↓reduceIte]; rfl
  have h2 : ∀ n, prgRomRead (s.setCpu c) n = ((prgRomRead s n).1, (prgRomRead s n).2.setCpu c) := by
    intro n
    unfold prgRomRead
    by_cases h : prgRomOffset s.mapper n < s.cart.prgRom.size
    · simp only [State.setCpu_mapper, State.setCpu_cart, h, ↓reduceIte]
    · simp only [State.setCpu_mapper, State.setCpu_cart, h, ↓reduceIte]
      rfl
  unfold cpuRead
  simp only [State.setCpu_ram, ppuRegRead_setCpu, h1, h2]
  repeat' split
  all_goals rfl

/-- A read of an address that holds a byte gives that byte and changes nothing. -/
theorem cpuRead_memByte {s : State} {a : Word} {b : Byte} (h : memByte s a = some b) : cpuRead s a = (b, s) := by
  unfold memByte at h
  unfold cpuRead
  simp only at h ⊢
  split at h
  · rename_i h1
    simp only [h1, ↓reduceIte]; rw [Option.some.inj h]
  · split at h
    · cases h
    · rename_i h1 h2
      have h3 : ¬ a.toNat < 0x4000 := by omega
      have h4 : ¬ a.toNat = 0x4015 := by omega
      have h5 : ¬ a.toNat = 0x4016 := by omega
      have h6 : ¬ a.toNat = 0x4017 := by omega
      simp only [h1, h2, h3, h4, h5, h6, ↓reduceIte]
      split at h
      · rename_i h7
        split at h
        · rename_i h8
          simp only [h7, ↓reduceIte, prgRamRead, h8, and_self]; rw [Option.some.inj h]
        · cases h
      · rename_i h7
        split at h
        · rename_i h8
          simp only [h7, ↓reduceIte, prgRomRead, h8]; rw [Option.some.inj h]
        · cases h

theorem cpuRead_ram {s : State} {a : Word} (h : a.toNat < 0x2000) :
    cpuRead s a = (sparseRead s.ram (a.toNat % 0x800), s) := by
  unfold cpuRead; simp only [h, ↓reduceIte]

theorem cycleRead_same (s : State) (a : Word) : SameMemory s (cycleRead s a).2 :=
  (cpuRead_same s a).trans (tick_same _)

@[simp] theorem cycleRead_cpu (s : State) (a : Word) : (cycleRead s a).2.cpu = s.cpu := by simp [cycleRead]
@[simp] theorem cycleRead_cycles (s : State) (a : Word) : (cycleRead s a).2.cycles = s.cycles + 1 := by simp [cycleRead]

theorem cycleRead_setCpu (s : State) (c : Cpu) (a : Word) :
    cycleRead (s.setCpu c) a = ((cycleRead s a).1, (cycleRead s a).2.setCpu c) := by
  simp only [cycleRead, cpuRead_setCpu, tick_setCpu]

theorem cycleRead_ram {s : State} {a : Word} (h : a.toNat < 0x2000) :
    (cycleRead s a).1 = sparseRead s.ram (a.toNat % 0x800) := by simp only [cycleRead, cpuRead_ram h]

theorem dummyRead_same (s : State) (a : Word) : SameMemory s (dummyRead s a) := by
  unfold dummyRead; split
  · exact cycleRead_same s a
  · exact tick_same s

@[simp] theorem dummyRead_cpu (s : State) (a : Word) : (dummyRead s a).cpu = s.cpu := by
  unfold dummyRead; split <;> simp
@[simp] theorem dummyRead_cycles (s : State) (a : Word) : (dummyRead s a).cycles = s.cycles + 1 := by
  unfold dummyRead; split <;> simp

theorem dummyRead_setCpu (s : State) (c : Cpu) (a : Word) :
    dummyRead (s.setCpu c) a = (dummyRead s a).setCpu c := by
  unfold dummyRead
  by_cases h : s.params.dummyAccesses = true
  · simp only [State.setCpu_params, h, ↓reduceIte, cycleRead_setCpu]
  · simp only [State.setCpu_params, h, ↓reduceIte, tick_setCpu, Bool.false_eq_true]

/-! ## A write -/

@[simp] theorem ppuWrite_cpu (s : State) (a : BitVec 14) (v : Byte) : (ppuWrite s a v).cpu = s.cpu := by
  unfold ppuWrite
  simp only
  repeat' split
  all_goals rfl

@[simp] theorem ppuRegWrite_cpu (s : State) (r : Nat) (v : Byte) : (ppuRegWrite s r v).cpu = s.cpu := by
  unfold ppuRegWrite
  split
  all_goals first
    | rfl
    | exact ppuWrite_cpu _ _ _

@[simp] theorem cpuWrite_cpu (s : State) (a : Word) (v : Byte) : (cpuWrite s a v).cpu = s.cpu := by
  unfold cpuWrite
  simp only
  repeat' split
  all_goals first
    | rfl
    | exact ppuRegWrite_cpu _ _ _

@[simp] theorem ppuWrite_cycles (s : State) (a : BitVec 14) (v : Byte) : (ppuWrite s a v).cycles = s.cycles := by
  unfold ppuWrite
  simp only
  repeat' split
  all_goals rfl

@[simp] theorem ppuRegWrite_cycles (s : State) (r : Nat) (v : Byte) : (ppuRegWrite s r v).cycles = s.cycles := by
  unfold ppuRegWrite
  split
  all_goals first
    | rfl
    | exact ppuWrite_cycles _ _ _

@[simp] theorem cpuWrite_cycles (s : State) (a : Word) (v : Byte) : (cpuWrite s a v).cycles = s.cycles := by
  unfold cpuWrite
  simp only
  repeat' split
  all_goals first
    | rfl
    | exact ppuRegWrite_cycles _ _ _

theorem ppuWrite_setCpu (s : State) (c : Cpu) (a : BitVec 14) (v : Byte) :
    ppuWrite (s.setCpu c) a v = (ppuWrite s a v).setCpu c := by
  unfold ppuWrite
  by_cases h : s.cart.chrRom = none ∧ chrOffset s.mapper a.toNat < chrSize s.cart <;>
    by_cases h1 : a.toNat < 0x2000 <;> by_cases h2 : a.toNat < 0x3F00 <;>
    simp only [State.setCpu_cart, State.setCpu_mapper, h, h1, h2, ↓reduceIte, and_self] <;> rfl

theorem ppuRegWrite_setCpu (s : State) (c : Cpu) (r : Nat) (v : Byte) :
    ppuRegWrite (s.setCpu c) r v = (ppuRegWrite s r v).setCpu c := by
  unfold ppuRegWrite
  split
  all_goals first
    | rfl
    | (unfold ppuDataWrite; simp only [State.setCpu_ppu, ppuWrite_setCpu]; rfl)

/-- A write to RAM changes that one cell of RAM. -/
theorem cpuWrite_ram {s : State} {a : Word} (v : Byte) (h : a.toNat < 0x2000) :
    cpuWrite s a v = { s with ram := sparseWrite s.ram (a.toNat % 0x800) v } := by
  unfold cpuWrite; simp only [h, ↓reduceIte]

theorem ppuWrite_frame (s : State) (a : BitVec 14) (v : Byte) :
    SameBoard s (ppuWrite s a v) ∧ (ppuWrite s a v).ram = s.ram ∧ (ppuWrite s a v).prgRam = s.prgRam ∧
      (ppuWrite s a v).mapper = s.mapper ∧ (ppuWrite s a v).strobe = s.strobe ∧ (ppuWrite s a v).oamDma = s.oamDma := by
  unfold ppuWrite
  simp only
  repeat' split
  all_goals exact ⟨⟨rfl, rfl, rfl, rfl⟩, rfl, rfl, rfl, rfl, rfl⟩

theorem ppuRegWrite_frame (s : State) (r : Nat) (v : Byte) :
    SameBoard s (ppuRegWrite s r v) ∧ (ppuRegWrite s r v).ram = s.ram ∧ (ppuRegWrite s r v).prgRam = s.prgRam ∧
      (ppuRegWrite s r v).mapper = s.mapper ∧ (ppuRegWrite s r v).strobe = s.strobe ∧
      (ppuRegWrite s r v).oamDma = s.oamDma := by
  unfold ppuRegWrite ppuCtrlWrite oamDataWrite ppuDataWrite
  split
  all_goals first
    | exact ⟨⟨rfl, rfl, rfl, rfl⟩, rfl, rfl, rfl, rfl, rfl⟩
    | exact ⟨⟨(ppuWrite_frame _ _ _).1.1, (ppuWrite_frame _ _ _).1.2, (ppuWrite_frame _ _ _).1.3, (ppuWrite_frame _ _ _).1.4⟩,
        (ppuWrite_frame _ _ _).2.1, (ppuWrite_frame _ _ _).2.2.1, (ppuWrite_frame _ _ _).2.2.2.1,
        (ppuWrite_frame _ _ _).2.2.2.2.1, (ppuWrite_frame _ _ _).2.2.2.2.2⟩

/-- No write changes the board. -/
theorem cpuWrite_board (s : State) (a : Word) (v : Byte) : SameBoard s (cpuWrite s a v) := by
  unfold cpuWrite
  simp only
  repeat' split
  all_goals first
    | exact ⟨rfl, rfl, rfl, rfl⟩
    | exact (ppuRegWrite_frame _ _ _).1

/-! A write, by where its address lies (20_memory.md R205). -/

theorem cpuWrite_ppu {s : State} {a : Word} (v : Byte) (h : 0x2000 ≤ a.toNat) (h' : a.toNat < 0x4000) :
    cpuWrite s a v = ppuRegWrite s (a.toNat % 8) v := by
  unfold cpuWrite; simp only; rw [if_neg (by omega), if_pos h']

theorem cpuWrite_apu {s : State} {a : Word} (v : Byte) (h : 0x4000 ≤ a.toNat)
    (h' : a.toNat < 0x4014 ∨ a.toNat = 0x4015 ∨ a.toNat = 0x4017) :
    cpuWrite s a v = { s with
      apu := apuWrite s.apu (a.toNat - 0x4000) v, pending := apuWriteIrq (a.toNat - 0x4000) v s.pending } := by
  unfold cpuWrite; simp only; rw [if_neg (by omega), if_neg (by omega), if_pos h']

theorem cpuWrite_dma {s : State} {a : Word} (v : Byte) (h : a.toNat = 0x4014) :
    cpuWrite s a v = { s with oamDma := some v } := by
  unfold cpuWrite; simp only; rw [if_neg (by omega), if_neg (by omega), if_neg (by omega), if_pos h]

theorem cpuWrite_strobe {s : State} {a : Word} (v : Byte) (h : a.toNat = 0x4016) :
    cpuWrite s a v = { s with strobe := v.getLsbD 0 } := by
  unfold cpuWrite; simp only
  rw [if_neg (by omega), if_neg (by omega), if_neg (by omega), if_neg (by omega), if_pos h]

theorem cpuWrite_nothing {s : State} {a : Word} (v : Byte) (h : 0x4018 ≤ a.toNat) (h' : a.toNat < 0x6000) :
    cpuWrite s a v = s := by
  unfold cpuWrite; simp only
  rw [if_neg (by omega), if_neg (by omega), if_neg (by omega), if_neg (by omega), if_neg (by omega), if_pos h']

theorem cpuWrite_prgRam {s : State} {a : Word} (v : Byte) (h : 0x6000 ≤ a.toNat) (h' : a.toNat < 0x8000) :
    cpuWrite s a v = prgRamWrite s a v := by
  unfold cpuWrite; simp only
  rw [if_neg (by omega), if_neg (by omega), if_neg (by omega), if_neg (by omega), if_neg (by omega), if_neg (by omega),
    if_pos h']

theorem cpuWrite_mapper {s : State} {a : Word} (v : Byte) (h : 0x8000 ≤ a.toNat) :
    cpuWrite s a v = { s with
      mapper := mapperWrite s.params s.cart s.mapper a v, pending := mapperWriteIrq s.mapper a s.pending } := by
  unfold cpuWrite; simp only
  rw [if_neg (by omega), if_neg (by omega), if_neg (by omega), if_neg (by omega), if_neg (by omega), if_neg (by omega),
    if_neg (by omega)]

theorem cpuWrite_setCpu (s : State) (c : Cpu) (a : Word) (v : Byte) :
    cpuWrite (s.setCpu c) a v = (cpuWrite s a v).setCpu c := by
  rcases Nat.lt_or_ge a.toNat 0x2000 with h | h
  · rw [cpuWrite_ram v h, cpuWrite_ram v h]; rfl
  rcases Nat.lt_or_ge a.toNat 0x4000 with h1 | h1
  · rw [cpuWrite_ppu v h h1, cpuWrite_ppu v h h1, ppuRegWrite_setCpu]
  by_cases h2 : a.toNat < 0x4014 ∨ a.toNat = 0x4015 ∨ a.toNat = 0x4017
  · rw [cpuWrite_apu v h1 h2, cpuWrite_apu v h1 h2]; simp only [State.setCpu]
  by_cases h3 : a.toNat = 0x4014
  · rw [cpuWrite_dma v h3, cpuWrite_dma v h3]; rfl
  by_cases h4 : a.toNat = 0x4016
  · rw [cpuWrite_strobe v h4, cpuWrite_strobe v h4]; rfl
  rcases Nat.lt_or_ge a.toNat 0x6000 with h5 | h5
  · rw [cpuWrite_nothing v (by omega) h5, cpuWrite_nothing v (by omega) h5]
  rcases Nat.lt_or_ge a.toNat 0x8000 with h6 | h6
  · rw [cpuWrite_prgRam v h5 h6, cpuWrite_prgRam v h5 h6]
    unfold prgRamWrite
    simp only [State.setCpu_mapper, State.setCpu_cart, State.setCpu_prgRam]
    rfl
  · rw [cpuWrite_mapper v h6, cpuWrite_mapper v h6, State.setCpu_params, State.setCpu_cart, State.setCpu_mapper,
      State.setCpu_pending]
    rfl

/-- A write outside the chip's registers leaves the mapper as it is (R330, R355). -/
theorem ninaWrite_other {c : Cartridge} {m : Mapper} {a : Word} {v : Byte} (h : m.chip.registerAt a = false) :
    ninaWrite c m a v = m := by
  unfold ninaWrite
  split
  · rename_i hc
    simp only [hc, Chip.registerAt, Bool.or_eq_false_iff, decide_eq_false_iff_not] at h
    rw [if_neg h.1.1, if_neg h.1.2, if_neg h.2]
  · rfl

theorem mapperWrite_other {p : Params} {c : Cartridge} {m : Mapper} {a : Word} {v : Byte} (hm : 0x8000 ≤ a.toNat)
    (h : m.chip.registerAt a = false) : mapperWrite p c m a v = m := by
  unfold mapperWrite
  split <;> first
    | rfl
    | (rename_i hc; simp [hc, Chip.registerAt] at h; omega)

/-- Everything a CPU write can change. -/
theorem cpuWrite_stored (s : State) (a : Word) (v : Byte) : SameButStored a s (cpuWrite s a v) := by
  have hn : ∀ {n : Nat} {w : Word}, w.toNat = n → a ≠ w → a.toNat ≠ n :=
    fun e ne e' => ne (BitVec.eq_of_toNat_eq (e'.trans e.symm))
  rcases Nat.lt_or_ge a.toNat 0x2000 with h | h
  · rw [cpuWrite_ram v h]
    exact ⟨⟨rfl, rfl, rfl, rfl⟩, fun _ => ⟨rfl, rfl, rfl, rfl⟩, fun _ => .refl _,
      fun k hk => sparseRead_write_other _ _ (fun e => hk ⟨h, e⟩), fun _ _ => rfl, fun _ => rfl, fun _ => rfl⟩
  rcases Nat.lt_or_ge a.toNat 0x4000 with h1 | h1
  · rw [cpuWrite_ppu v h h1]
    have f := ppuRegWrite_frame s (a.toNat % 8) v
    refine ⟨f.1, fun e => ?_, fun _ => ?_, fun k _ => by rw [f.2.1], fun k _ => by rw [f.2.2.1],
      fun _ => f.2.2.2.2.1, fun _ => f.2.2.2.2.2⟩
    · simp [isPpuRegister, h, h1] at e
    · rw [f.2.2.2.1]; exact .refl _
  by_cases h2 : a.toNat < 0x4014 ∨ a.toNat = 0x4015 ∨ a.toNat = 0x4017
  · rw [cpuWrite_apu v h1 h2]
    exact ⟨⟨rfl, rfl, rfl, rfl⟩, fun _ => ⟨rfl, rfl, rfl, rfl⟩, fun _ => .refl _, fun _ _ => rfl, fun _ _ => rfl,
      fun _ => rfl, fun _ => rfl⟩
  by_cases h3 : a.toNat = 0x4014
  · rw [cpuWrite_dma v h3]
    exact ⟨⟨rfl, rfl, rfl, rfl⟩, fun _ => ⟨rfl, rfl, rfl, rfl⟩, fun _ => .refl _, fun _ _ => rfl, fun _ _ => rfl,
      fun _ => rfl, fun ne => absurd h3 (hn (by rfl) ne)⟩
  by_cases h4 : a.toNat = 0x4016
  · rw [cpuWrite_strobe v h4]
    exact ⟨⟨rfl, rfl, rfl, rfl⟩, fun _ => ⟨rfl, rfl, rfl, rfl⟩, fun _ => .refl _, fun _ _ => rfl, fun _ _ => rfl,
      fun ne => absurd h4 (hn (by rfl) ne), fun _ => rfl⟩
  rcases Nat.lt_or_ge a.toNat 0x6000 with h5 | h5
  · rw [cpuWrite_nothing v (by omega) h5]
    exact ⟨⟨rfl, rfl, rfl, rfl⟩, fun _ => ⟨rfl, rfl, rfl, rfl⟩, fun _ => .refl _, fun _ _ => rfl, fun _ _ => rfl,
      fun _ => rfl, fun _ => rfl⟩
  rcases Nat.lt_or_ge a.toNat 0x8000 with h6 | h6
  · rw [cpuWrite_prgRam v h5 h6]
    refine ⟨⟨rfl, rfl, rfl, rfl⟩, fun _ => ⟨rfl, rfl, rfl, rfl⟩, fun e => ?_, fun _ _ => rfl, fun k hk => ?_,
      fun _ => rfl, fun _ => rfl⟩
    · show SameBanking _ (ninaWrite _ _ _ _)
      rw [ninaWrite_other e]
      exact .refl _
    show sparseRead (if _ then _ else _) k = _
    split
    · exact sparseRead_write_other _ _ (fun e => hk ⟨h5, h6, e⟩)
    · rfl
  · rw [cpuWrite_mapper v h6]
    refine ⟨⟨rfl, rfl, rfl, rfl⟩, fun _ => ⟨rfl, rfl, rfl, rfl⟩, fun e => ?_, fun _ _ => rfl, fun _ _ => rfl,
      fun _ => rfl, fun _ => rfl⟩
    show SameBanking _ (mapperWrite _ _ _ _ _)
    rw [mapperWrite_other h6 e]
    exact .refl _

theorem SameMemory.stored {s t u : State} {a : Word} (h : SameMemory s t) (g : SameButStored a t u) :
    SameButStored a s u := by
  refine ⟨h.board.trans g.board, fun x => h.video.trans (g.video x),
    fun x => h.banking.trans (g.banking ((h.banking.registers a).trans x)), ?_, ?_, ?_, ?_⟩
  · intro k hk; rw [g.ram k hk, h.ram]
  · intro k hk
    rw [g.prgRam k (by simpa [prgRamOffset, h.board.cart, h.banking.prgRamMap] using hk), h.prgRam]
  · intro x; rw [g.strobe x, h.strobe]
  · intro x; rw [g.oamDma x, h.oamDma]

theorem SameButStored.after {s t u : State} {a : Word} (g : SameButStored a s t) (h : SameMemory t u) :
    SameButStored a s u := by
  refine ⟨g.board.trans h.board, fun x => (g.video x).trans h.video, fun x => (g.banking x).trans h.banking, ?_, ?_, ?_, ?_⟩
  · intro k hk; rw [h.ram, g.ram k hk]
  · intro k hk; rw [h.prgRam, g.prgRam k hk]
  · intro x; rw [h.strobe, g.strobe x]
  · intro x; rw [h.oamDma, g.oamDma x]

theorem cycleWrite_stored (s : State) (a : Word) (v : Byte) : SameButStored a s (cycleWrite s a v) :=
  (cpuWrite_stored s a v).after (tick_same _)

@[simp] theorem cycleWrite_cpu (s : State) (a : Word) (v : Byte) : (cycleWrite s a v).cpu = s.cpu := by simp [cycleWrite]
@[simp] theorem cycleWrite_cycles (s : State) (a : Word) (v : Byte) : (cycleWrite s a v).cycles = s.cycles + 1 := by
  simp [cycleWrite]

theorem cycleWrite_setCpu (s : State) (c : Cpu) (a : Word) (v : Byte) :
    cycleWrite (s.setCpu c) a v = (cycleWrite s a v).setCpu c := by
  simp only [cycleWrite, cpuWrite_setCpu, tick_setCpu]

/-- A write cycle to RAM. -/
theorem cycleWrite_ram {s : State} {a : Word} (v : Byte) (h : a.toNat < 0x2000) :
    (cycleWrite s a v).ram = sparseWrite s.ram (a.toNat % 0x800) v ∧ SameButRam s (cycleWrite s a v) := by
  simp only [cycleWrite, cpuWrite_ram v h]
  have g := tick_same { s with ram := sparseWrite s.ram (a.toNat % 0x800) v }
  exact ⟨g.ram, ⟨⟨g.1.1, g.1.2, g.1.3, g.1.4⟩, ⟨g.2.1, g.2.2, g.2.3, g.2.4⟩, g.3, g.5, g.6, g.7⟩⟩

@[simp] theorem dummyWrite_cpu (s : State) (a : Word) (v : Byte) : (dummyWrite s a v).cpu = s.cpu := by
  unfold dummyWrite; split <;> simp
@[simp] theorem dummyWrite_cycles (s : State) (a : Word) (v : Byte) : (dummyWrite s a v).cycles = s.cycles + 1 := by
  unfold dummyWrite; split <;> simp

theorem dummyWrite_stored (s : State) (a : Word) (v : Byte) : SameButStored a s (dummyWrite s a v) := by
  unfold dummyWrite; split
  · exact cycleWrite_stored s a v
  · exact ⟨(tick_same s).1, fun _ => (tick_same s).2, fun _ => (tick_same s).3, fun k _ => by rw [(tick_same s).ram],
      fun k _ => by rw [(tick_same s).prgRam], fun _ => (tick_same s).strobe, fun _ => (tick_same s).oamDma⟩

end Sys2Proof.Machine
end

