-- ==== Sys2Proof/Laws/Operands.lean ====
section
/-! SUPPORT. Fetches, the stack, and the operand forms: what each leaves of the registers, of memory and of the cycle count. -/

namespace Sys2Proof.Machine

/-! ## Words -/

@[simp] theorem wordOf_toNat (l h : Byte) : (wordOf l h).toNat = h.toNat * 256 + l.toNat := by
  rw [wordOf, BitVec.toNat_append, ← Nat.shiftLeft_add_eq_or_of_lt l.isLt, Nat.shiftLeft_eq]

@[simp] theorem wordOf_bytes (a : Word) : wordOf (loByte a) (hiByte a) = a := by
  simp only [wordOf, loByte, hiByte]
  ext i hi
  simp only [BitVec.getElem_append, BitVec.getElem_extractLsb']
  split <;> rename_i h
  · simp [BitVec.getElem_eq_testBit_toNat, BitVec.getLsbD]
  · simp only [BitVec.getLsbD, BitVec.getElem_eq_testBit_toNat]
    congr 1; omega

@[simp] theorem loByte_wordOf (l h : Byte) : loByte (wordOf l h) = l := by
  apply BitVec.eq_of_toNat_eq
  have := l.isLt; have := h.isLt
  simp only [loByte, BitVec.extractLsb'_toNat, wordOf_toNat, Nat.shiftRight_zero]
  omega

@[simp] theorem hiByte_wordOf (l h : Byte) : hiByte (wordOf l h) = h := by
  apply BitVec.eq_of_toNat_eq
  have := l.isLt; have := h.isLt
  simp only [hiByte, BitVec.extractLsb'_toNat, wordOf_toNat, Nat.shiftRight_eq_div_pow]
  omega

theorem zeroPage_toNat (z : Byte) : (zeroPage z).toNat = z.toNat := by simp [zeroPage]

theorem zeroPage_lt (z : Byte) : (zeroPage z).toNat < 0x2000 := by
  have := z.isLt; rw [zeroPage_toNat]; omega

theorem zeroPage_cell (z : Byte) : (zeroPage z).toNat % 0x800 = z.toNat := by
  have := z.isLt; rw [zeroPage_toNat]; omega

theorem stackAddr_lt (c : Cpu) : (stackAddr c).toNat < 0x2000 := by
  have := c.s.isLt; simp [stackAddr]; omega

theorem stackAddr_cell (c : Cpu) : (stackAddr c).toNat % 0x800 = stackCell c.s := by
  have := c.s.isLt; simp [stackAddr, stackCell]; omega

/-! ## Fetch -/

theorem fetch_same (s : State) : SameMemory s (fetch s) := (cycleRead_same s _).setCpu _

theorem fetch_cpu (s : State) : (fetch s).cpu = { s.cpu with pc := s.cpu.pc + 1 } := by
  simp [fetch]

@[simp] theorem fetch_cycles (s : State) : (fetch s).cycles = s.cycles + 1 := by simp [fetch]

theorem fetchN_same (n : Nat) (s : State) : SameMemory s (fetchN n s) := by
  induction n generalizing s with
  | zero => exact .refl s
  | succ n ih => exact (fetch_same s).trans (ih _)

theorem fetchN_cpu (n : Nat) (s : State) : (fetchN n s).cpu = { s.cpu with pc := s.cpu.pc + BitVec.ofNat 16 n } := by
  induction n generalizing s with
  | zero => simp [fetchN]
  | succ n ih =>
    have h : s.cpu.pc + 1 + BitVec.ofNat 16 n = s.cpu.pc + BitVec.ofNat 16 (n + 1) := by
      rw [BitVec.ofNat_add, BitVec.add_assoc, BitVec.add_comm 1]; rfl
    simp only [fetchN, ih, fetch_cpu, h]

@[simp] theorem fetchN_cycles (n : Nat) (s : State) : (fetchN n s).cycles = s.cycles + n := by
  induction n generalizing s with
  | zero => rfl
  | succ n ih => rw [fetchN, ih, fetch_cycles]; omega

/-! ## Stack -/

theorem push_cpu (s : State) (v : Byte) : (push s v).cpu = { s.cpu with s := s.cpu.s - 1 } := by simp [push]
@[simp] theorem push_cycles (s : State) (v : Byte) : (push s v).cycles = s.cycles + 1 := by simp [push]

/-- A push stores one byte of RAM, the one S names. -/
theorem push_ram (s : State) (v : Byte) : (push s v).ram = sparseWrite s.ram (stackCell s.cpu.s) v := by
  simp only [push, State.setS_ram]
  rw [(cycleWrite_ram v (stackAddr_lt s.cpu)).1, stackAddr_cell]

theorem SameButRam.setS {s t : State} (h : SameButRam s t) (v : Byte) : SameButRam s (t.setS v) :=
  ⟨⟨h.1.1, h.1.2, h.1.3, h.1.4⟩, ⟨h.2.1, h.2.2, h.2.3, h.2.4⟩, h.3, h.4, h.5, h.6⟩

theorem SameButRam.setCpu {s t : State} (h : SameButRam s t) (c : Cpu) : SameButRam s (t.setCpu c) :=
  ⟨⟨h.1.1, h.1.2, h.1.3, h.1.4⟩, ⟨h.2.1, h.2.2, h.2.3, h.2.4⟩, h.3, h.4, h.5, h.6⟩

theorem push_same (s : State) (v : Byte) : SameButRam s (push s v) :=
  (cycleWrite_ram v (stackAddr_lt s.cpu)).2.setS _

/-- A pull reads the byte of RAM that S + 1 names. -/
theorem pull_fst (s : State) : (pull s).1 = sparseRead s.ram (stackCell (s.cpu.s + 1)) := by
  simp only [pull, cycleRead_ram (stackAddr_lt _), stackAddr_cell, State.setS_cpu, State.setS_ram]

theorem pull_cpu (s : State) : (pull s).2.cpu = { s.cpu with s := s.cpu.s + 1 } := by simp [pull]
@[simp] theorem pull_cycles (s : State) : (pull s).2.cycles = s.cycles + 1 := by simp [pull]

theorem pull_same (s : State) : SameMemory s (pull s).2 := by
  have h := cycleRead_same (s.setS (s.cpu.s + 1)) (stackAddr (s.setS (s.cpu.s + 1)).cpu)
  rw [State.setS_eq] at h
  exact h.of_setCpu

theorem pushPc_cpu (s : State) : (pushPc s).cpu = { s.cpu with s := s.cpu.s - 2 } := by
  simp only [pushPc, push_cpu]
  congr 1
  simp only [BitVec.sub_sub]; rfl

@[simp] theorem pushPc_cycles (s : State) : (pushPc s).cycles = s.cycles + 2 := by simp [pushPc]

theorem pushPc_ram (s : State) : (pushPc s).ram =
    sparseWrite (sparseWrite s.ram (stackCell s.cpu.s) (hiByte s.cpu.pc)) (stackCell (s.cpu.s - 1)) (loByte s.cpu.pc) := by
  simp only [pushPc, push_ram, push_cpu]

theorem pushPc_same (s : State) : SameButRam s (pushPc s) := (push_same s _).trans (push_same _ _)

/-! ## Effective addresses -/

theorem indexed_same (acc : Access) (base : Word) (x : Byte) (s : State) : SameMemory s (indexed acc base x s).2 := by
  unfold indexed; simp only; split
  · exact .refl s
  · exact dummyRead_same s _

@[simp] theorem indexed_cpu (acc : Access) (base : Word) (x : Byte) (s : State) : (indexed acc base x s).2.cpu = s.cpu := by
  unfold indexed; simp only; split <;> simp

@[simp] theorem indexed_fst (acc : Access) (base : Word) (x : Byte) (s : State) :
    (indexed acc base x s).1 = base + x.setWidth 16 := by
  unfold indexed; simp only; split <;> rfl

theorem indexed_cycles (acc : Access) (base : Word) (x : Byte) (s : State) :
    (indexed acc base x s).2.cycles =
      s.cycles + (if acc = .read ∧ crosses base (base + x.setWidth 16) = false then 0 else 1) := by
  unfold indexed; simp only; split <;> simp

/-- A zero-page pointer is read from RAM. -/
theorem readZeroPage16_fst (z : Byte) (s : State) :
    (readZeroPage16 z s).1 = wordOf (sparseRead s.ram z.toNat) (sparseRead s.ram (z + 1).toNat) := by
  simp only [readZeroPage16, cycleRead_ram (zeroPage_lt _), zeroPage_cell, (cycleRead_same s _).ram]

theorem readZeroPage16_same (z : Byte) (s : State) : SameMemory s (readZeroPage16 z s).2 :=
  (cycleRead_same s _).trans (cycleRead_same _ _)

@[simp] theorem readZeroPage16_cpu (z : Byte) (s : State) : (readZeroPage16 z s).2.cpu = s.cpu := by simp [readZeroPage16]
@[simp] theorem readZeroPage16_cycles (z : Byte) (s : State) : (readZeroPage16 z s).2.cycles = s.cycles + 2 := by
  simp [readZeroPage16]

/-- Finding an address only fetches and reads. -/
theorem addressOf_same (acc : Access) (m : Addressing) (s : State) : SameMemory s (addressOf acc m s).2 := by
  cases m
  case zp z => exact fetchN_same 2 s
  case zpx z => exact (fetchN_same 2 s).trans (dummyRead_same _ _)
  case zpy z => exact (fetchN_same 2 s).trans (dummyRead_same _ _)
  case abs a => exact fetchN_same 3 s
  case abx a => exact (fetchN_same 3 s).trans (indexed_same _ _ _ _)
  case aby a => exact (fetchN_same 3 s).trans (indexed_same _ _ _ _)
  case izx z => exact ((fetchN_same 2 s).trans (dummyRead_same _ _)).trans (readZeroPage16_same _ _)
  case izy z => exact ((fetchN_same 2 s).trans (readZeroPage16_same _ _)).trans (indexed_same _ _ _ _)

theorem addressOf_cpu (acc : Access) (m : Addressing) (s : State) :
    (addressOf acc m s).2.cpu = { s.cpu with pc := s.cpu.pc + BitVec.ofNat 16 (addressingBytes m) } := by
  cases m <;> simp [addressOf, addressingBytes, fetchN_cpu]

theorem addressOf_fst (acc : Access) (m : Addressing) (s : State) : (addressOf acc m s).1 = effectiveAddress m s := by
  cases m <;>
    simp [addressOf, effectiveAddress, readZeroPage16_fst, ((fetchN_same 2 s).trans (dummyRead_same _ _)).ram,
      (fetchN_same 2 s).ram]

/-- Cycles of an address: those of R1120 less the accesses at it. -/
theorem addressOf_cycles (acc : Access) (m : Addressing) (s : State) :
    (addressOf acc m s).2.cycles + 1 =
      s.cycles + (match acc with | .read => readCycles m s | .write => writeCycles m | .rmw => rmwCycles m - 2) := by
  cases m <;> cases acc <;>
    simp [addressOf, readCycles, writeCycles, rmwCycles, crossOf, indexed_cycles, readZeroPage16_fst,
      (fetchN_same 2 s).ram]
  all_goals first
    | omega
    | (split <;> simp_all)

/-! ## Operands -/

theorem readOperand_same (src : Source) (s : State) : SameMemory s (readOperand src s).2 := by
  cases src
  case imm m => exact fetchN_same 2 s
  case mem m => exact (addressOf_same .read m s).trans (cycleRead_same _ _)

theorem readOperand_cpu (src : Source) (s : State) :
    (readOperand src s).2.cpu = { s.cpu with pc := s.cpu.pc + BitVec.ofNat 16 (sourceBytes src) } := by
  cases src
  case imm m => simp [readOperand, sourceBytes, fetchN_cpu]
  case mem m => simp [readOperand, sourceBytes, addressOf_cpu]

theorem readOperand_cycles (src : Source) (s : State) : (readOperand src s).2.cycles = s.cycles + sourceCycles src s := by
  cases src
  case imm m => simp [readOperand, sourceCycles]
  case mem m => simp [readOperand, sourceCycles, addressOf_cycles]

/-- The operand is the immediate byte, or what the effective address holds. -/
theorem readOperand_memByte {m : Addressing} {s : State} {b : Byte} (h : memByte s (effectiveAddress m s) = some b) :
    (readOperand (.mem m) s).1 = b := by
  simp only [readOperand, cycleRead, addressOf_fst]
  rw [cpuRead_memByte (by rw [(addressOf_same .read m s).memByte]; exact h)]

end Sys2Proof.Machine
end

