-- ==== Sys2Proof/Laws/Closure.lean ====
section
/-! SUPPORT. What a step is made of, said once: a property of states that every part keeps (a CPU cycle, a bus read, a bus
write, a change of CPU registers, and the few updates of the DMA engines and the entries) is kept by every instruction and
by every step. -/

namespace Sys2Proof.Machine

/-- The record a DMC fetch leaves, given the byte read (60_exceptions.md R843). -/
def dmcStore (s : State) (b : Byte) : State :=
  { s with
    apu := { s.apu with dmc := dmcTake s.apu.dmc b }
    pending := { s.pending with irqDmc := s.pending.irqDmc || dmcTakeIrq s.apu.dmc } }

/-! ## A standing DMC request stays standing -/

@[simp] theorem cpuRead_apu (s : State) (a : Word) : (cpuRead s a).2.apu = s.apu := by
  unfold cpuRead ppuRegRead ppuStatusRead ppuDataRead apuStatusRead inputPortRead prgRamRead prgRomRead drawOpenBus
  simp only
  repeat' split
  all_goals rfl

theorem dmcOutput_fetchPending (d : Dmc) : (dmcOutput d).fetchPending = d.fetchPending := by
  unfold dmcOutput; simp only
  repeat' split
  all_goals rfl

theorem dmcRequest_fetchPending {d : Dmc} (h : d.fetchPending = true) : (dmcRequest d).fetchPending = true := by
  unfold dmcRequest; split
  · rfl
  · exact h

theorem dmcTimer_fetchPending (r : Region) {d : Dmc} (h : d.fetchPending = true) : (dmcTimer r d).fetchPending = true := by
  unfold dmcTimer; split
  · exact dmcRequest_fetchPending ((dmcOutput_fetchPending _).trans h)
  · exact dmcRequest_fetchPending h

theorem seqClock_dmc (r : Region) (a : Apu) : (seqClock r a).dmc = a.dmc := by
  unfold seqClock; simp only
  repeat' split
  all_goals rfl

theorem apuCycle_dmc (r : Region) (a : Apu) : (apuCycle r a).dmc = dmcTimer r a.dmc := by
  unfold apuCycle channelTimers; simp only [seqClock_dmc]

theorem tick_fetchPending {s : State} (h : s.apu.dmc.fetchPending = true) : (tick s).apu.dmc.fetchPending = true := by
  rw [tick_apu, apuCycle_dmc]; exact dmcTimer_fetchPending _ h

theorem ticks_fetchPending (n : Nat) {s : State} (h : s.apu.dmc.fetchPending = true) :
    (ticks n s).apu.dmc.fetchPending = true := by
  induction n generalizing s with
  | zero => exact h
  | succ n ih => exact ih (tick_fetchPending h)

/-- P is kept by every part a step is made of. -/
structure KeptByParts (P : State → Prop) : Prop where
  tick     : ∀ s, P s → P (tick s)
  read     : ∀ s a, P s → P (cpuRead s a).2
  write    : ∀ s a v, P s → P (cpuWrite s a v)
  cpu      : ∀ s c, P s → P (s.setCpu c)
  oamByte  : ∀ s v, P s → P (oamDataWrite s v)
  dmaDone  : ∀ s, P s → P { s with oamDma := none }
  stall    : ∀ s, P s → P { s with draws := { s.draws with dmcStall := s.draws.dmcStall + 1 } }
  dmcByte  : ∀ s b, s.apu.dmc.fetchPending = true → P s → P (dmcStore s b)
  nmiTaken : ∀ s, P s → P { s with pending := { s.pending with nmi := false } }
  warm     : ∀ s, P s → P (deviceReset s)
  zero     : ∀ s, P s → P { s with cycles := 0 }

namespace KeptByParts

variable {P : State → Prop} (h : KeptByParts P)
include h

theorem setPc (s : State) (a : Word) (hs : P s) : P (s.setPc a) := h.cpu s _ hs
theorem setS (s : State) (v : Byte) (hs : P s) : P (s.setS v) := h.cpu s _ hs

theorem ticks (n : Nat) (s : State) (hs : P s) : P (ticks n s) := by
  induction n generalizing s with
  | zero => exact hs
  | succ n ih => exact ih _ (h.tick s hs)

theorem cycleRead (s : State) (a : Word) (hs : P s) : P (cycleRead s a).2 := h.tick _ (h.read s a hs)
theorem cycleWrite (s : State) (a : Word) (v : Byte) (hs : P s) : P (cycleWrite s a v) := h.tick _ (h.write s a v hs)

theorem dummyRead (s : State) (a : Word) (hs : P s) : P (dummyRead s a) := by
  unfold Machine.dummyRead; split
  · exact h.cycleRead s a hs
  · exact h.tick s hs

theorem dummyWrite (s : State) (a : Word) (v : Byte) (hs : P s) : P (dummyWrite s a v) := by
  unfold Machine.dummyWrite; split
  · exact h.cycleWrite s a v hs
  · exact h.tick s hs

theorem fetch (s : State) (hs : P s) : P (fetch s) := h.setPc _ _ (h.cycleRead s _ hs)

theorem fetchN (n : Nat) (s : State) (hs : P s) : P (fetchN n s) := by
  induction n generalizing s with
  | zero => exact hs
  | succ n ih => exact ih _ (h.fetch s hs)

theorem push (s : State) (v : Byte) (hs : P s) : P (push s v) := h.setS _ _ (h.cycleWrite s _ v hs)
theorem pull (s : State) (hs : P s) : P (pull s).2 := h.cycleRead _ _ (h.setS s _ hs)
theorem pushPc (s : State) (hs : P s) : P (pushPc s) := h.push _ _ (h.push s _ hs)

theorem loadVector (s : State) (v : Word) (hs : P s) : P (loadVector s v) :=
  h.setPc _ _ (h.cycleRead _ _ (h.cycleRead s _ hs))

theorem enter (b : Bool) (v : Word) (s : State) (hs : P s) : P (enter b v s) :=
  h.loadVector _ _ (h.cpu _ _ (h.push _ _ (h.pushPc s hs)))

theorem interruptEntry (v : Word) (s : State) (hs : P s) : P (interruptEntry v s) :=
  h.enter _ _ _ (h.dummyRead _ _ (h.dummyRead s _ hs))

theorem resetStackCycle (s : State) (hs : P s) : P (resetStackCycle s) := h.setS _ _ (h.dummyRead s _ hs)

theorem resetEntry (s : State) (hs : P s) : P (resetEntry s) :=
  h.loadVector _ _ (h.resetStackCycle _ (h.resetStackCycle _ (h.resetStackCycle _ (h.dummyRead _ _ (h.dummyRead _ _
    (h.cpu _ _ (h.warm s hs)))))))

theorem raiseIllegal (op : Byte) (s : State) (hs : P s) : P (raiseIllegal op s) := h.cpu _ _ (h.cycleRead s _ hs)

theorem returnFromInterrupt (s : State) (hs : P s) : P (returnFromInterrupt s) :=
  h.setPc _ _ (h.pull _ (h.pull _ (h.cpu _ _ (h.pull s hs))))

theorem readZeroPage16 (z : Byte) (s : State) (hs : P s) : P (readZeroPage16 z s).2 :=
  h.cycleRead _ _ (h.cycleRead s _ hs)

theorem indexed (acc : Access) (base : Word) (x : Byte) (s : State) (hs : P s) : P (indexed acc base x s).2 := by
  unfold Machine.indexed; simp only; split
  · exact hs
  · exact h.dummyRead s _ hs

theorem addressOf (acc : Access) (m : Addressing) (s : State) (hs : P s) : P (addressOf acc m s).2 := by
  cases m
  case zp z => exact h.fetchN 2 s hs
  case zpx z => exact h.dummyRead _ _ (h.fetchN 2 s hs)
  case zpy z => exact h.dummyRead _ _ (h.fetchN 2 s hs)
  case abs a => exact h.fetchN 3 s hs
  case abx a => exact h.indexed _ _ _ _ (h.fetchN 3 s hs)
  case aby a => exact h.indexed _ _ _ _ (h.fetchN 3 s hs)
  case izx z => exact h.readZeroPage16 _ _ (h.dummyRead _ _ (h.fetchN 2 s hs))
  case izy z => exact h.indexed _ _ _ _ (h.readZeroPage16 _ _ (h.fetchN 2 s hs))

theorem readOperand (src : Source) (s : State) (hs : P s) : P (readOperand src s).2 := by
  cases src
  case imm m => exact h.fetchN 2 s hs
  case mem m => exact h.cycleRead _ _ (h.addressOf .read m s hs)

theorem readOp (f : Cpu → Byte → Cpu) (src : Source) (s : State) (hs : P s) : P (readOp f src s) :=
  h.cpu _ _ (h.readOperand src s hs)

theorem storeOp (f : Cpu → Byte) (m : Addressing) (s : State) (hs : P s) : P (storeOp f m s) :=
  h.cycleWrite _ _ _ (h.addressOf .write m s hs)

theorem rmwOp (f : Cpu → Byte → Byte × Cpu) (m : Addressing) (s : State) (hs : P s) : P (rmwOp f m s) :=
  h.cycleWrite _ _ _ (h.cpu _ _ (h.dummyWrite _ _ _ (h.cycleRead _ _ (h.addressOf .rmw m s hs))))

theorem impliedOp (f : Cpu → Cpu) (s : State) (hs : P s) : P (impliedOp f s) :=
  h.cpu _ _ (h.dummyRead _ _ (h.fetch s hs))

theorem pushOp (f : Cpu → Byte) (s : State) (hs : P s) : P (pushOp f s) := h.push _ _ (h.dummyRead _ _ (h.fetch s hs))

theorem pullOp (f : Cpu → Byte → Cpu) (s : State) (hs : P s) : P (pullOp f s) :=
  h.cpu _ _ (h.pull _ (h.dummyRead _ _ (h.dummyRead _ _ (h.fetch s hs))))

theorem branch (cond : Cpu → Bool) (off : Byte) (s : State) (hs : P s) : P (branch cond off s) := by
  have h2 := h.fetchN 2 s hs
  unfold Machine.branch; simp only; split
  · refine h.setPc _ _ ?_
    split
    · exact h.dummyRead _ _ (h.dummyRead _ _ h2)
    · exact h.dummyRead _ _ h2
  · exact h2

theorem jumpTo (a : Word) (s : State) (hs : P s) : P (jumpTo a s) := h.setPc _ _ (h.fetchN 3 s hs)

theorem jumpIndirect (a : Word) (s : State) (hs : P s) : P (jumpIndirect a s) :=
  h.setPc _ _ (h.cycleRead _ _ (h.cycleRead _ _ (h.fetchN 3 s hs)))

theorem jumpSubroutine (a : Word) (s : State) (hs : P s) : P (jumpSubroutine a s) :=
  h.setPc _ _ (h.cycleRead _ _ (h.pushPc _ (h.dummyRead _ _ (h.fetchN 2 s hs))))

theorem returnSubroutine (s : State) (hs : P s) : P (returnSubroutine s) :=
  h.setPc _ _ (h.dummyRead _ _ (h.pull _ (h.pull _ (h.dummyRead _ _ (h.dummyRead _ _ (h.fetch s hs))))))

theorem softwareInterrupt (s : State) (hs : P s) : P (softwareInterrupt s) := h.enter _ _ _ (h.fetchN 2 s hs)

theorem returnOp (s : State) (hs : P s) : P (returnOp s) :=
  h.returnFromInterrupt _ (h.dummyRead _ _ (h.dummyRead _ _ (h.fetch s hs)))

theorem undocumented (op : Byte) (bytes cycles : Nat) (nmos : State → State) (hn : ∀ s, P s → P (nmos s)) (s : State)
    (hs : P s) : P (undocumented op bytes cycles nmos s) := by
  unfold Machine.undocumented; split
  · exact h.raiseIllegal op s hs
  · exact h.ticks _ _ (h.fetchN _ s hs)
  · exact hn s hs

theorem undocRead (op : Byte) (f : Cpu → Byte → Cpu) (src : Source) (s : State) (hs : P s) : P (undocRead op f src s) := by
  cases src
  case imm m => exact h.undocumented _ _ _ _ (h.readOp f _) s hs
  case mem m => exact h.undocumented _ _ _ _ (h.readOp f _) s hs

theorem undocStore (op : Byte) (f : Cpu → Byte) (m : Addressing) (s : State) (hs : P s) : P (undocStore op f m s) :=
  h.undocumented _ _ _ _ (h.storeOp f m) s hs

theorem undocRmw (op : Byte) (f : Cpu → Byte → Byte × Cpu) (m : Addressing) (s : State) (hs : P s) :
    P (undocRmw op f m s) := h.undocumented _ _ _ _ (h.rmwOp f m) s hs

theorem undocNop (op : Byte) (s : State) (hs : P s) : P (undocNop op s) := h.undocumented _ _ _ _ (h.impliedOp id) s hs

theorem jam (op : Byte) (s : State) (hs : P s) : P (jam op s) :=
  h.undocumented _ _ _ _ (fun s hs => h.cpu _ _ (h.fetch s hs)) s hs

theorem unstable (op : Byte) (bytes cycles : Nat) (s : State) (hs : P s) : P (unstable op bytes cycles s) :=
  h.undocumented _ _ _ _ (h.raiseIllegal op) s hs

/-- Every instruction keeps P. -/
theorem exec {i : Instr} {s t : State} (hs : P s) (e : exec i s = .next t) : P t := by
  cases i <;> obtain rfl := Host.Outcome.next.inj e <;> with_reducible first
    | exact h.readOp _ _ _ hs
    | exact h.impliedOp _ _ hs
    | exact h.storeOp _ _ _ hs
    | exact h.rmwOp _ _ _ hs
    | exact h.undocRmw _ _ _ _ hs
    | exact h.undocRead _ _ _ _ hs
    | exact h.branch _ _ _ hs
    | exact h.undocStore _ _ _ _ hs
    | exact h.undocNop _ _ hs
    | exact h.jam _ _ hs
    | exact h.unstable _ _ _ _ hs
    | exact h.pushOp _ _ hs
    | exact h.pullOp _ _ hs
    | exact h.jumpTo _ _ hs
    | exact h.jumpIndirect _ _ hs
    | exact h.jumpSubroutine _ _ hs
    | exact h.returnSubroutine _ hs
    | exact h.softwareInterrupt _ hs
    | exact h.returnOp _ hs

theorem oamDmaBytes (page : Byte) (n : Nat) (s : State) (hs : P s) : P (oamDmaBytes page n s) := by
  induction n generalizing s with
  | zero => exact hs
  | succ n ih => exact ih _ (h.tick _ (h.oamByte _ _ (h.cycleRead s _ hs)))

theorem oamDmaRun (s : State) (hs : P s) : P (oamDmaRun s) := by
  unfold Machine.oamDmaRun; split
  · exact hs
  · exact h.oamDmaBytes _ _ _ (h.dmaDone s hs)

theorem dmcFetch (s : State) (hf : s.apu.dmc.fetchPending = true) (hs : P s) : P (dmcFetch s) := by
  have key : ∀ t : State, t.apu.dmc.fetchPending = true → P t →
      P (Machine.tick (dmcStore (cpuRead t t.apu.dmc.currentAddress).2 (cpuRead t t.apu.dmc.currentAddress).1)) :=
    fun t ht hp => h.tick _ (h.dmcByte _ _ (by rw [cpuRead_apu]; exact ht) (h.read _ _ hp))
  have hst := h.stall s hs
  unfold Machine.dmcFetch
  simp only
  split
  · exact key _ (ticks_fetchPending 3 hf) (h.ticks 3 _ hst)
  · exact key _ (ticks_fetchPending 2 hf) (h.ticks 2 _ hst)

theorem dmcRun (n : Nat) (s : State) (hs : P s) : P (dmcRun n s) := by
  induction n generalizing s with
  | zero => exact hs
  | succ n ih =>
    unfold Machine.dmcRun; split
    · rename_i hf; exact ih _ (h.dmcFetch s hf hs)
    · exact hs

theorem finishStep (s : State) (hs : P s) : P (finishStep s) := by
  unfold Machine.finishStep; split
  · exact h.dmcRun _ _ (h.oamDmaRun s hs)
  · exact hs

theorem interruptCheck (s : State) (hs : P s) : P (interruptCheck s) := by
  unfold Machine.interruptCheck
  repeat' split
  · exact h.resetEntry s hs
  · exact h.interruptEntry _ _ (h.nmiTaken s hs)
  · exact h.interruptEntry _ s hs
  · exact hs

theorem runInstr {s t : State} (hs : P s) (e : runInstr s = .next t) : P t := by
  unfold Machine.runInstr at e
  split at e
  · rename_i u hu
    obtain rfl := Host.Outcome.next.inj e
    exact h.finishStep _ (h.exec hs hu)
  · cases e
  · cases e

/-- Every step keeps P. -/
theorem step {s t : State} (hs : P s) (e : step s = .next t) : P t := by
  unfold Machine.step at e
  split at e
  · cases e
  · split at e
    · unfold stepRunning at e
      split at e
      · obtain rfl := Host.Outcome.next.inj e; exact h.tick _ (h.zero s hs)
      · exact h.runInstr (h.interruptCheck _ (h.zero s hs)) e
    · cases e

end KeptByParts

end Sys2Proof.Machine
end

