-- ==== Sys2Proof/Laws/Decode.lean ====
section
/-! SUPPORT. The opcode map covers every byte, and what decoding gives by the length of the opcode's instruction. -/

namespace Sys2Proof

/-- Every opcode byte has its cell in the map (30_encoding.md R407): the default of `opcodeCell` is never used. -/
theorem opcodeCell_total (op : Byte) : ((opcodeMap.getD (op.toNat / 16) [])[op.toNat % 16]?).isSome = true := by
  have h : ∀ n : Fin 256, ((opcodeMap.getD (n.val / 16) [])[n.val % 16]?).isSome = true := by decide +kernel
  exact h ⟨op.toNat, op.isLt⟩

theorem opcodeLength_pos (op : Byte) : 1 ≤ opcodeLength op := by unfold opcodeLength; split <;> decide

theorem opcodeLength_le (op : Byte) : opcodeLength op ≤ 3 := by unfold opcodeLength; split <;> decide

/-- A list that is long enough decodes to the instruction of its bytes, and the bytes after it are left. -/
theorem decode_of_length (op b1 b2 : Byte) (rest : List Byte) :
    decode (op :: b1 :: b2 :: rest) = .ok (instrOf op b1 b2, (b1 :: b2 :: rest).drop (opcodeLength op - 1)) := by
  simp only [decode]
  unfold instrOf opcodeLength
  cases opcodeCell op <;> rfl

end Sys2Proof
end

