-- ==== Sys2Proof/Laws/Mapper.lean ====
section
/-! SUPPORT. The banking primitives as list splices: what a mapping leaves in the window maps (21_cartridge_mappers.md R320, R321),
and where a nametable access lands (R326). -/

namespace Sys2Proof.Machine

/-- Setting k consecutive entries is replacing that stretch of the list. -/
theorem foldl_set_range {α : Type} (f : Nat → α) (w k : Nat) (m : List α) (h : w + k ≤ m.length) :
    (List.range k).foldl (fun m i => m.set (w + i) (f i)) m = m.take w ++ (List.range k).map f ++ m.drop (w + k) := by
  induction k with
  | zero => simp
  | succ k ih =>
    rw [List.range_succ, List.foldl_append, ih (by omega), List.map_append]
    have hl : (m.take w ++ (List.range k).map f).length = w + k := by simp; omega
    have hd : m.drop (w + k) = m[w + k] :: m.drop (w + (k + 1)) := List.drop_eq_getElem_cons (by omega)
    simp only [List.foldl_cons, List.foldl_nil, List.map_cons, List.map_nil]
    rw [List.set_append, if_neg (by omega), hl, Nat.sub_self, hd, List.set_cons_zero]
    simp

/-- A mapping shows its banks in its own windows and leaves the others. -/
theorem setWindows_eq {size win k b w : Nat} {m : List Nat} (h : w + k ≤ m.length) :
    setWindows size win k b w m = m.take w ++ shownBanks size win k b ++ m.drop (w + k) :=
  foldl_set_range _ w k m h

@[simp] theorem setWindows_length (size win k b w : Nat) (m : List Nat) :
    (setWindows size win k b w m).length = m.length := by
  unfold setWindows
  generalize List.range k = l
  induction l generalizing m with
  | nil => rfl
  | cons i l ih => simp [ih]

@[simp] theorem shownBanks_length (size unit k b : Nat) : (shownBanks size unit k b).length = k := by simp [shownBanks]

/-- A map of 1 window. -/
theorem shownBanks_one (size unit b : Nat) : shownBanks size unit 1 b = [b &&& bankMask size unit] := by
  simp [shownBanks, bankMask]

@[simp] theorem mapPrg_prgMap (c : Cartridge) (k b w : Nat) (m : Mapper) :
    (mapPrg c k b w m).prgMap = setWindows c.prgRom.size 0x2000 k b w m.prgMap := rfl
@[simp] theorem mapPrg_chrMap (c : Cartridge) (k b w : Nat) (m : Mapper) : (mapPrg c k b w m).chrMap = m.chrMap := rfl
@[simp] theorem mapPrg_chip (c : Cartridge) (k b w : Nat) (m : Mapper) : (mapPrg c k b w m).chip = m.chip := rfl
@[simp] theorem mapPrg_mirroring (c : Cartridge) (k b w : Nat) (m : Mapper) :
    (mapPrg c k b w m).mirroring = m.mirroring := rfl
@[simp] theorem mapPrg_prgRamMap (c : Cartridge) (k b w : Nat) (m : Mapper) :
    (mapPrg c k b w m).prgRamMap = m.prgRamMap := rfl
@[simp] theorem mapPrg_prgRamOn (c : Cartridge) (k b w : Nat) (m : Mapper) : (mapPrg c k b w m).prgRamOn = m.prgRamOn := rfl
@[simp] theorem mapPrg_prgRamWE (c : Cartridge) (k b w : Nat) (m : Mapper) : (mapPrg c k b w m).prgRamWE = m.prgRamWE := rfl

@[simp] theorem mapChr_chrMap (c : Cartridge) (k b w : Nat) (m : Mapper) :
    (mapChr c k b w m).chrMap = setWindows (chrSize c) 0x400 k b w m.chrMap := rfl
@[simp] theorem mapChr_prgMap (c : Cartridge) (k b w : Nat) (m : Mapper) : (mapChr c k b w m).prgMap = m.prgMap := rfl
@[simp] theorem mapChr_chip (c : Cartridge) (k b w : Nat) (m : Mapper) : (mapChr c k b w m).chip = m.chip := rfl
@[simp] theorem mapChr_mirroring (c : Cartridge) (k b w : Nat) (m : Mapper) :
    (mapChr c k b w m).mirroring = m.mirroring := rfl
@[simp] theorem mapChr_prgRamMap (c : Cartridge) (k b w : Nat) (m : Mapper) :
    (mapChr c k b w m).prgRamMap = m.prgRamMap := rfl
@[simp] theorem mapChr_prgRamOn (c : Cartridge) (k b w : Nat) (m : Mapper) : (mapChr c k b w m).prgRamOn = m.prgRamOn := rfl
@[simp] theorem mapChr_prgRamWE (c : Cartridge) (k b w : Nat) (m : Mapper) : (mapChr c k b w m).prgRamWE = m.prgRamWE := rfl

/-- What `mmc1Apply` leaves (R342–R345): mirroring and both maps are wholly the registers'; PRG RAM is R348's. -/
theorem mmc1Apply_eq (c : Cartridge) (r : Mmc1) {m : Mapper} (hp : m.prgMap.length = 4) (hc : m.chrMap.length = 8) :
    mmc1Apply c r m =
      (let prg := shownBanks c.prgRom.size 0x2000
       let chr := shownBanks (chrSize c) 0x400
       let bank := (r.prg.extractLsb' 0 4).toNat
       mmc1PrgRam c r { m with
         chip := .mmc1 r
         mirroring := mmc1Mirroring r
         prgMap := match (r.control.extractLsb' 2 2).toNat with
           | 2 => prg 2 0 ++ prg 2 bank
           | 3 => prg 2 bank ++ prg 2 (lastPrg16 c)
           | _ => prg 4 (r.prg.extractLsb' 1 3).toNat
         chrMap := if r.control.getLsbD 4 then chr 4 r.chr0.toNat ++ chr 4 r.chr1.toNat
           else chr 8 (r.chr0.extractLsb' 1 4).toNat }) := by
  unfold mmc1Apply mmc1Chr mmc1Prg
  generalize (r.control.extractLsb' 2 2).toNat = mode
  rcases mode with _ | _ | _ | _ | _ <;> cases r.control.getLsbD 4 <;>
    simp [mapPrg, mapChr, hp, hc, setWindows_eq, List.drop_of_length_le]

/-- What `mmc3Apply` leaves (R362, R363): both maps are wholly the registers', and nothing else but the chip changes. -/
theorem mmc3Apply_eq (c : Cartridge) (r : Mmc3) {m : Mapper} (hp : m.prgMap.length = 4) (hc : m.chrMap.length = 8) :
    mmc3Apply c r m =
      (let l := c.prgRom.size / 0x2000
       let prg := fun b => b &&& bankMask c.prgRom.size 0x2000
       let chr := fun b => b &&& bankMask (chrSize c) 0x400
       let pairs := [mmc3R r 0 &&& 0xFE, mmc3R r 0 ||| 1, mmc3R r 1 &&& 0xFE, mmc3R r 1 ||| 1]
       let singles := [mmc3R r 2, mmc3R r 3, mmc3R r 4, mmc3R r 5]
       { m with
         chip := .mmc3 r
         prgMap := (if r.bankSelect.getLsbD 6 then [l - 2, mmc3R r 7, mmc3R r 6, l - 1]
           else [mmc3R r 6, mmc3R r 7, l - 2, l - 1]).map prg
         chrMap := (if r.bankSelect.getLsbD 7 then singles ++ pairs else pairs ++ singles).map chr }) := by
  match hm : m.prgMap, hp with
  | [_, _, _, _], _ =>
    match hn : m.chrMap, hc with
    | [_, _, _, _, _, _, _, _], _ =>
      unfold mmc3Apply mmc3Chr mmc3Prg mapPrg mapChr
      cases r.bankSelect.getLsbD 6 <;> cases r.bankSelect.getLsbD 7 <;>
        simp [hm, hn, setWindows_eq, shownBanks_one]

/-- A nametable access stays inside the memory of R900: 2 KiB, unless the cartridge's board is four-screen (D27, log 30). -/
theorem ntIndex_lt_ntramSize {s : State} {p : Nat}
    (h : s.mapper.mirroring = .fourScreen → s.cart.mirroring = .fourScreen) : ntIndex s.mapper p < ntramSize s.cart := by
  have hp : p % 0x400 < 0x400 := Nat.mod_lt _ (by decide)
  have hn : p / 0x400 % 4 < 4 := Nat.mod_lt _ (by decide)
  unfold ntIndex ntramSize nametablePage
  cases hm : s.mapper.mirroring <;> simp only [hm, forall_const, reduceCtorEq, false_implies] at h ⊢
  case fourScreen => rw [if_pos h]; omega
  all_goals split <;> omega

end Sys2Proof.Machine
end

