-- ==== Sys2Proof/Laws/MemoryForm.lean ====
section
/-! SUPPORT. Every operation that stores keeps every memory of the machine in its canonical form and inside its size. -/

namespace Sys2Proof.Machine

/-- The parts of the canonical form. -/
structure MemoryForm (s : State) : Prop where
  ram     : sparseWf 0x800 s.ram = true
  prgRam  : sparseWf s.cart.prgRamSize s.prgRam = true
  chrRam  : sparseWf s.cart.chrRamSize s.chrRam = true
  oam     : sparseWf 256 s.ppu.oam = true
  palette : sparseWf 32 s.ppu.palette = true
  ntram   : sparseWf 0x1000 s.ppu.ntram = true
  frame   : risingWithin 61440 0 s.ppu.frame = true

theorem memoryWf_iff (s : State) : s.memoryWf = true ↔ MemoryForm s := by
  simp only [State.memoryWf, Bool.and_eq_true]
  exact ⟨fun h => ⟨h.1.1.1.1.1.1, h.1.1.1.1.1.2, h.1.1.1.1.2, h.1.1.1.2, h.1.1.2, h.1.2, h.2⟩,
    fun h => ⟨⟨⟨⟨⟨⟨h.1, h.2⟩, h.3⟩, h.4⟩, h.5⟩, h.6⟩, h.7⟩⟩

/-! ## Index ranges -/

theorem paletteIndex_lt (p : Nat) : paletteIndex p < 32 := by
  unfold paletteIndex; simp only; split <;> omega

theorem nametablePage_lt (mi : Mirroring) (n : Nat) (h : n < 4) : nametablePage mi n < 4 := by
  cases mi <;> simp only [nametablePage] <;> omega

theorem ntIndex_lt (m : Mapper) (p : Nat) : ntIndex m p < 0x1000 := by
  have := nametablePage_lt m.mirroring (p / 0x400 % 4) (Nat.mod_lt _ (by decide))
  unfold ntIndex; omega

/-! ## Writes -/

theorem ppuWrite_form {s : State} (a : BitVec 14) (v : Byte) (h : MemoryForm s) : MemoryForm (ppuWrite s a v) := by
  unfold ppuWrite
  simp only
  repeat' split
  · rename_i hc
    refine ⟨h.1, h.2, sparseWf_write _ _ _ ?_ h.3, h.4, h.5, h.6, h.7⟩
    have := hc.2; simpa [chrSize, hc.1] using this
  · exact h
  · exact ⟨h.1, h.2, h.3, h.4, h.5, sparseWf_write _ _ _ (ntIndex_lt _ _) h.6, h.7⟩
  · exact ⟨h.1, h.2, h.3, h.4, sparseWf_write _ _ _ (paletteIndex_lt _) h.5, h.6, h.7⟩

theorem oamDataWrite_form {s : State} (v : Byte) (h : MemoryForm s) : MemoryForm (oamDataWrite s v) :=
  ⟨h.1, h.2, h.3, sparseWf_write _ _ _ s.ppu.oamAddr.isLt h.4, h.5, h.6, h.7⟩

theorem ppuRegWrite_form {s : State} (r : Nat) (v : Byte) (h : MemoryForm s) : MemoryForm (ppuRegWrite s r v) := by
  unfold ppuRegWrite
  split
  · exact ⟨h.1, h.2, h.3, h.4, h.5, h.6, h.7⟩
  · exact ⟨h.1, h.2, h.3, h.4, h.5, h.6, h.7⟩
  · exact ⟨h.1, h.2, h.3, h.4, h.5, h.6, h.7⟩
  · exact oamDataWrite_form v h
  · unfold ppuScrollWrite; split <;> exact ⟨h.1, h.2, h.3, h.4, h.5, h.6, h.7⟩
  · unfold ppuAddrWrite; split <;> exact ⟨h.1, h.2, h.3, h.4, h.5, h.6, h.7⟩
  · have g := ppuWrite_form (s.ppu.v.setWidth 14) v h
    exact ⟨g.1, g.2, g.3, g.4, g.5, g.6, g.7⟩
  · exact h

/-- A CPU write. -/
theorem cpuWrite_form {s : State} (a : Word) (v : Byte) (h : MemoryForm s) : MemoryForm (cpuWrite s a v) := by
  unfold cpuWrite
  simp only
  repeat' split
  · exact ⟨sparseWf_write _ _ _ (Nat.mod_lt _ (by decide)) h.1, h.2, h.3, h.4, h.5, h.6, h.7⟩
  · exact ppuRegWrite_form _ v h
  · exact ⟨h.1, h.2, h.3, h.4, h.5, h.6, h.7⟩
  · exact ⟨h.1, h.2, h.3, h.4, h.5, h.6, h.7⟩
  · exact ⟨h.1, h.2, h.3, h.4, h.5, h.6, h.7⟩
  · exact h
  · refine ⟨h.1, ?_, h.3, h.4, h.5, h.6, h.7⟩
    show sparseWf s.cart.prgRamSize (if _ then _ else _) = true
    split
    · rename_i hc; exact sparseWf_write _ _ _ (Nat.mod_lt _ hc.2) h.2
    · exact h.2
  · exact ⟨h.1, h.2, h.3, h.4, h.5, h.6, h.7⟩

/-- What changes no memory but the framebuffer keeps the form if the framebuffer does. -/
theorem SameMemory.form {s t : State} (g : SameMemory s t) (hf : risingWithin 61440 0 t.ppu.frame = true)
    (h : MemoryForm s) : MemoryForm t :=
  ⟨by rw [g.ram]; exact h.1, by rw [g.prgRam, g.board.cart]; exact h.2, by rw [g.video.chrRam, g.board.cart]; exact h.3,
   by rw [g.video.oam]; exact h.4, by rw [g.video.palette]; exact h.5, by rw [g.video.ntram]; exact h.6, hf⟩

/-! ## Reads and time -/

theorem cpuRead_frame (s : State) (a : Word) : (cpuRead s a).2.ppu.frame = s.ppu.frame := by
  unfold cpuRead ppuRegRead ppuStatusRead ppuDataRead apuStatusRead inputPortRead prgRamRead prgRomRead drawOpenBus
  simp only
  repeat' split
  all_goals rfl

/-- A CPU read. -/
theorem cpuRead_form {s : State} (a : Word) (h : MemoryForm s) : MemoryForm (cpuRead s a).2 :=
  (cpuRead_same s a).form (by rw [cpuRead_frame]; exact h.7) h

theorem pixelStage_frame (y d : Nat) (p : Ppu) (hy : y < 240) (h : risingWithin 61440 0 p.frame = true) :
    risingWithin 61440 0 (pixelStage y d p).frame = true := by
  unfold pixelStage
  split
  · exact risingWithin_insert _ _ _ _ (Nat.zero_le _) (by omega) h
  · exact h

theorem bgStage_frame (d : Nat) (p : Ppu) : (bgStage d p).frame = p.frame := by unfold bgStage; split <;> rfl

theorem fetchStage_frame (s : State) (pre : Bool) (d : Nat) (p : Ppu) : (fetchStage s pre d p).frame = p.frame := by
  unfold fetchStage; split <;> rfl

theorem evaluateStage_frame (bug : Bool) (y d : Nat) (p : Ppu) : (evaluateStage bug y d p).frame = p.frame := by
  unfold evaluateStage; repeat' split
  all_goals rfl

theorem spriteStage_frame (s : State) (y d : Nat) (p : Ppu) : (spriteStage s y d p).frame = p.frame := by
  unfold spriteStage spriteFetch; simp only; repeat' split
  all_goals rfl

theorem preRenderDot_frame (s : State) (d : Nat) (p : Ppu) : (preRenderDot s d p).frame = p.frame := by
  have h1 : ∀ q : Ppu, (preRenderSprites d q).frame = q.frame := by
    intro q; unfold preRenderSprites; simp only; repeat' split
    all_goals rfl
  have h2 : (clearFlagsStage d p).frame = p.frame := by unfold clearFlagsStage; split <;> rfl
  unfold preRenderDot
  rw [h1, fetchStage_frame, bgStage_frame, h2]

theorem lineOf_visible {n : Int} {y : Nat} (h : lineOf n = .visible y) : y < 240 ∧ n = (y : Int) := by
  unfold lineOf at h
  split at h
  · cases h
  · split at h
    · rename_i m hm; cases h; exact ⟨hm, rfl⟩
    · cases h

theorem dotEvents_frame {s : State} (h : risingWithin 61440 0 s.ppu.frame = true) :
    risingWithin 61440 0 (dotEvents s).frame = true := by
  unfold dotEvents
  split
  · rw [preRenderDot_frame]; exact h
  · rename_i y hy
    unfold visibleDot
    rw [spriteStage_frame, evaluateStage_frame, fetchStage_frame]
    exact pixelStage_frame _ _ _ (lineOf_visible hy).1 (by rw [bgStage_frame]; exact h)
  · split <;> exact h

theorem beamAdvance_frame (r : Region) (p : Ppu) : (beamAdvance r p).frame = p.frame := by
  unfold beamAdvance; repeat' split
  all_goals rfl

/-- A PPU clock. -/
theorem ppuDot_form {s : State} (h : MemoryForm s) : MemoryForm (ppuDot s) :=
  (ppuDot_same s).form (by
    show risingWithin 61440 0 (beamAdvance s.region (dotEvents s)).frame = true
    rw [beamAdvance_frame]; exact dotEvents_frame h.7) h

theorem ppuDots_form (n : Nat) {s : State} (h : MemoryForm s) : MemoryForm (ppuDots n s) := by
  induction n generalizing s with
  | zero => exact h
  | succ n ih => exact ih (ppuDot_form h)

/-- A CPU cycle of device time. -/
theorem tick_form {s : State} (h : MemoryForm s) : MemoryForm (tick s) :=
  ppuDots_form _ ⟨h.1, h.2, h.3, h.4, h.5, h.6, h.7⟩

end Sys2Proof.Machine
end

