-- ==== Sys2Proof/Laws/PerInstr.lean ====
section
/-! SUPPORT. Statements about every instruction as syntax, one lemma per constructor. -/

namespace Sys2Proof.Laws

/-- An instruction is well-formed, and its encoding has the length its opcode byte alone gives (30_encoding.md R400, R401). -/
def Encoding.Statement (i : Instr) : Prop := i.wellFormed = true ∧ (encode i).length = opcodeLength i.opcode

theorem Encoding.ldaIzx (z : Byte) : Encoding.Statement (.ldaIzx z) :=
  ⟨rfl, (by decide : 2 = opcodeLength 0xA1)⟩
theorem Encoding.ldaZp (z : Byte) : Encoding.Statement (.ldaZp z) :=
  ⟨rfl, (by decide : 2 = opcodeLength 0xA5)⟩
theorem Encoding.ldaImm (m : Byte) : Encoding.Statement (.ldaImm m) :=
  ⟨rfl, (by decide : 2 = opcodeLength 0xA9)⟩
theorem Encoding.ldaAbs (a : Word) : Encoding.Statement (.ldaAbs a) :=
  ⟨rfl, (by decide : 3 = opcodeLength 0xAD)⟩
theorem Encoding.ldaIzy (z : Byte) : Encoding.Statement (.ldaIzy z) :=
  ⟨rfl, (by decide : 2 = opcodeLength 0xB1)⟩
theorem Encoding.ldaZpx (z : Byte) : Encoding.Statement (.ldaZpx z) :=
  ⟨rfl, (by decide : 2 = opcodeLength 0xB5)⟩
theorem Encoding.ldaAby (a : Word) : Encoding.Statement (.ldaAby a) :=
  ⟨rfl, (by decide : 3 = opcodeLength 0xB9)⟩
theorem Encoding.ldaAbx (a : Word) : Encoding.Statement (.ldaAbx a) :=
  ⟨rfl, (by decide : 3 = opcodeLength 0xBD)⟩
theorem Encoding.ldxImm (m : Byte) : Encoding.Statement (.ldxImm m) :=
  ⟨rfl, (by decide : 2 = opcodeLength 0xA2)⟩
theorem Encoding.ldxZp (z : Byte) : Encoding.Statement (.ldxZp z) :=
  ⟨rfl, (by decide : 2 = opcodeLength 0xA6)⟩
theorem Encoding.ldxAbs (a : Word) : Encoding.Statement (.ldxAbs a) :=
  ⟨rfl, (by decide : 3 = opcodeLength 0xAE)⟩
theorem Encoding.ldxZpy (z : Byte) : Encoding.Statement (.ldxZpy z) :=
  ⟨rfl, (by decide : 2 = opcodeLength 0xB6)⟩
theorem Encoding.ldxAby (a : Word) : Encoding.Statement (.ldxAby a) :=
  ⟨rfl, (by decide : 3 = opcodeLength 0xBE)⟩
theorem Encoding.ldyImm (m : Byte) : Encoding.Statement (.ldyImm m) :=
  ⟨rfl, (by decide : 2 = opcodeLength 0xA0)⟩
theorem Encoding.ldyZp (z : Byte) : Encoding.Statement (.ldyZp z) :=
  ⟨rfl, (by decide : 2 = opcodeLength 0xA4)⟩
theorem Encoding.ldyAbs (a : Word) : Encoding.Statement (.ldyAbs a) :=
  ⟨rfl, (by decide : 3 = opcodeLength 0xAC)⟩
theorem Encoding.ldyZpx (z : Byte) : Encoding.Statement (.ldyZpx z) :=
  ⟨rfl, (by decide : 2 = opcodeLength 0xB4)⟩
theorem Encoding.ldyAbx (a : Word) : Encoding.Statement (.ldyAbx a) :=
  ⟨rfl, (by decide : 3 = opcodeLength 0xBC)⟩
theorem Encoding.staIzx (z : Byte) : Encoding.Statement (.staIzx z) :=
  ⟨rfl, (by decide : 2 = opcodeLength 0x81)⟩
theorem Encoding.staZp (z : Byte) : Encoding.Statement (.staZp z) :=
  ⟨rfl, (by decide : 2 = opcodeLength 0x85)⟩
theorem Encoding.staAbs (a : Word) : Encoding.Statement (.staAbs a) :=
  ⟨rfl, (by decide : 3 = opcodeLength 0x8D)⟩
theorem Encoding.staIzy (z : Byte) : Encoding.Statement (.staIzy z) :=
  ⟨rfl, (by decide : 2 = opcodeLength 0x91)⟩
theorem Encoding.staZpx (z : Byte) : Encoding.Statement (.staZpx z) :=
  ⟨rfl, (by decide : 2 = opcodeLength 0x95)⟩
theorem Encoding.staAby (a : Word) : Encoding.Statement (.staAby a) :=
  ⟨rfl, (by decide : 3 = opcodeLength 0x99)⟩
theorem Encoding.staAbx (a : Word) : Encoding.Statement (.staAbx a) :=
  ⟨rfl, (by decide : 3 = opcodeLength 0x9D)⟩
theorem Encoding.stxZp (z : Byte) : Encoding.Statement (.stxZp z) :=
  ⟨rfl, (by decide : 2 = opcodeLength 0x86)⟩
theorem Encoding.stxAbs (a : Word) : Encoding.Statement (.stxAbs a) :=
  ⟨rfl, (by decide : 3 = opcodeLength 0x8E)⟩
theorem Encoding.stxZpy (z : Byte) : Encoding.Statement (.stxZpy z) :=
  ⟨rfl, (by decide : 2 = opcodeLength 0x96)⟩
theorem Encoding.styZp (z : Byte) : Encoding.Statement (.styZp z) :=
  ⟨rfl, (by decide : 2 = opcodeLength 0x84)⟩
theorem Encoding.styAbs (a : Word) : Encoding.Statement (.styAbs a) :=
  ⟨rfl, (by decide : 3 = opcodeLength 0x8C)⟩
theorem Encoding.styZpx (z : Byte) : Encoding.Statement (.styZpx z) :=
  ⟨rfl, (by decide : 2 = opcodeLength 0x94)⟩
theorem Encoding.adcIzx (z : Byte) : Encoding.Statement (.adcIzx z) :=
  ⟨rfl, (by decide : 2 = opcodeLength 0x61)⟩
theorem Encoding.adcZp (z : Byte) : Encoding.Statement (.adcZp z) :=
  ⟨rfl, (by decide : 2 = opcodeLength 0x65)⟩
theorem Encoding.adcImm (m : Byte) : Encoding.Statement (.adcImm m) :=
  ⟨rfl, (by decide : 2 = opcodeLength 0x69)⟩
theorem Encoding.adcAbs (a : Word) : Encoding.Statement (.adcAbs a) :=
  ⟨rfl, (by decide : 3 = opcodeLength 0x6D)⟩
theorem Encoding.adcIzy (z : Byte) : Encoding.Statement (.adcIzy z) :=
  ⟨rfl, (by decide : 2 = opcodeLength 0x71)⟩
theorem Encoding.adcZpx (z : Byte) : Encoding.Statement (.adcZpx z) :=
  ⟨rfl, (by decide : 2 = opcodeLength 0x75)⟩
theorem Encoding.adcAby (a : Word) : Encoding.Statement (.adcAby a) :=
  ⟨rfl, (by decide : 3 = opcodeLength 0x79)⟩
theorem Encoding.adcAbx (a : Word) : Encoding.Statement (.adcAbx a) :=
  ⟨rfl, (by decide : 3 = opcodeLength 0x7D)⟩
theorem Encoding.sbcIzx (z : Byte) : Encoding.Statement (.sbcIzx z) :=
  ⟨rfl, (by decide : 2 = opcodeLength 0xE1)⟩
theorem Encoding.sbcZp (z : Byte) : Encoding.Statement (.sbcZp z) :=
  ⟨rfl, (by decide : 2 = opcodeLength 0xE5)⟩
theorem Encoding.sbcImm (m : Byte) : Encoding.Statement (.sbcImm m) :=
  ⟨rfl, (by decide : 2 = opcodeLength 0xE9)⟩
theorem Encoding.sbcAbs (a : Word) : Encoding.Statement (.sbcAbs a) :=
  ⟨rfl, (by decide : 3 = opcodeLength 0xED)⟩
theorem Encoding.sbcIzy (z : Byte) : Encoding.Statement (.sbcIzy z) :=
  ⟨rfl, (by decide : 2 = opcodeLength 0xF1)⟩
theorem Encoding.sbcZpx (z : Byte) : Encoding.Statement (.sbcZpx z) :=
  ⟨rfl, (by decide : 2 = opcodeLength 0xF5)⟩
theorem Encoding.sbcAby (a : Word) : Encoding.Statement (.sbcAby a) :=
  ⟨rfl, (by decide : 3 = opcodeLength 0xF9)⟩
theorem Encoding.sbcAbx (a : Word) : Encoding.Statement (.sbcAbx a) :=
  ⟨rfl, (by decide : 3 = opcodeLength 0xFD)⟩
theorem Encoding.cmpIzx (z : Byte) : Encoding.Statement (.cmpIzx z) :=
  ⟨rfl, (by decide : 2 = opcodeLength 0xC1)⟩
theorem Encoding.cmpZp (z : Byte) : Encoding.Statement (.cmpZp z) :=
  ⟨rfl, (by decide : 2 = opcodeLength 0xC5)⟩
theorem Encoding.cmpImm (m : Byte) : Encoding.Statement (.cmpImm m) :=
  ⟨rfl, (by decide : 2 = opcodeLength 0xC9)⟩
theorem Encoding.cmpAbs (a : Word) : Encoding.Statement (.cmpAbs a) :=
  ⟨rfl, (by decide : 3 = opcodeLength 0xCD)⟩
theorem Encoding.cmpIzy (z : Byte) : Encoding.Statement (.cmpIzy z) :=
  ⟨rfl, (by decide : 2 = opcodeLength 0xD1)⟩
theorem Encoding.cmpZpx (z : Byte) : Encoding.Statement (.cmpZpx z) :=
  ⟨rfl, (by decide : 2 = opcodeLength 0xD5)⟩
theorem Encoding.cmpAby (a : Word) : Encoding.Statement (.cmpAby a) :=
  ⟨rfl, (by decide : 3 = opcodeLength 0xD9)⟩
theorem Encoding.cmpAbx (a : Word) : Encoding.Statement (.cmpAbx a) :=
  ⟨rfl, (by decide : 3 = opcodeLength 0xDD)⟩
theorem Encoding.cpxImm (m : Byte) : Encoding.Statement (.cpxImm m) :=
  ⟨rfl, (by decide : 2 = opcodeLength 0xE0)⟩
theorem Encoding.cpxZp (z : Byte) : Encoding.Statement (.cpxZp z) :=
  ⟨rfl, (by decide : 2 = opcodeLength 0xE4)⟩
theorem Encoding.cpxAbs (a : Word) : Encoding.Statement (.cpxAbs a) :=
  ⟨rfl, (by decide : 3 = opcodeLength 0xEC)⟩
theorem Encoding.cpyImm (m : Byte) : Encoding.Statement (.cpyImm m) :=
  ⟨rfl, (by decide : 2 = opcodeLength 0xC0)⟩
theorem Encoding.cpyZp (z : Byte) : Encoding.Statement (.cpyZp z) :=
  ⟨rfl, (by decide : 2 = opcodeLength 0xC4)⟩
theorem Encoding.cpyAbs (a : Word) : Encoding.Statement (.cpyAbs a) :=
  ⟨rfl, (by decide : 3 = opcodeLength 0xCC)⟩
theorem Encoding.incZp (z : Byte) : Encoding.Statement (.incZp z) :=
  ⟨rfl, (by decide : 2 = opcodeLength 0xE6)⟩
theorem Encoding.incAbs (a : Word) : Encoding.Statement (.incAbs a) :=
  ⟨rfl, (by decide : 3 = opcodeLength 0xEE)⟩
theorem Encoding.incZpx (z : Byte) : Encoding.Statement (.incZpx z) :=
  ⟨rfl, (by decide : 2 = opcodeLength 0xF6)⟩
theorem Encoding.incAbx (a : Word) : Encoding.Statement (.incAbx a) :=
  ⟨rfl, (by decide : 3 = opcodeLength 0xFE)⟩
theorem Encoding.decZp (z : Byte) : Encoding.Statement (.decZp z) :=
  ⟨rfl, (by decide : 2 = opcodeLength 0xC6)⟩
theorem Encoding.decAbs (a : Word) : Encoding.Statement (.decAbs a) :=
  ⟨rfl, (by decide : 3 = opcodeLength 0xCE)⟩
theorem Encoding.decZpx (z : Byte) : Encoding.Statement (.decZpx z) :=
  ⟨rfl, (by decide : 2 = opcodeLength 0xD6)⟩
theorem Encoding.decAbx (a : Word) : Encoding.Statement (.decAbx a) :=
  ⟨rfl, (by decide : 3 = opcodeLength 0xDE)⟩
theorem Encoding.andIzx (z : Byte) : Encoding.Statement (.andIzx z) :=
  ⟨rfl, (by decide : 2 = opcodeLength 0x21)⟩
theorem Encoding.andZp (z : Byte) : Encoding.Statement (.andZp z) :=
  ⟨rfl, (by decide : 2 = opcodeLength 0x25)⟩
theorem Encoding.andImm (m : Byte) : Encoding.Statement (.andImm m) :=
  ⟨rfl, (by decide : 2 = opcodeLength 0x29)⟩
theorem Encoding.andAbs (a : Word) : Encoding.Statement (.andAbs a) :=
  ⟨rfl, (by decide : 3 = opcodeLength 0x2D)⟩
theorem Encoding.andIzy (z : Byte) : Encoding.Statement (.andIzy z) :=
  ⟨rfl, (by decide : 2 = opcodeLength 0x31)⟩
theorem Encoding.andZpx (z : Byte) : Encoding.Statement (.andZpx z) :=
  ⟨rfl, (by decide : 2 = opcodeLength 0x35)⟩
theorem Encoding.andAby (a : Word) : Encoding.Statement (.andAby a) :=
  ⟨rfl, (by decide : 3 = opcodeLength 0x39)⟩
theorem Encoding.andAbx (a : Word) : Encoding.Statement (.andAbx a) :=
  ⟨rfl, (by decide : 3 = opcodeLength 0x3D)⟩
theorem Encoding.oraIzx (z : Byte) : Encoding.Statement (.oraIzx z) :=
  ⟨rfl, (by decide : 2 = opcodeLength 0x01)⟩
theorem Encoding.oraZp (z : Byte) : Encoding.Statement (.oraZp z) :=
  ⟨rfl, (by decide : 2 = opcodeLength 0x05)⟩
theorem Encoding.oraImm (m : Byte) : Encoding.Statement (.oraImm m) :=
  ⟨rfl, (by decide : 2 = opcodeLength 0x09)⟩
theorem Encoding.oraAbs (a : Word) : Encoding.Statement (.oraAbs a) :=
  ⟨rfl, (by decide : 3 = opcodeLength 0x0D)⟩
theorem Encoding.oraIzy (z : Byte) : Encoding.Statement (.oraIzy z) :=
  ⟨rfl, (by decide : 2 = opcodeLength 0x11)⟩
theorem Encoding.oraZpx (z : Byte) : Encoding.Statement (.oraZpx z) :=
  ⟨rfl, (by decide : 2 = opcodeLength 0x15)⟩
theorem Encoding.oraAby (a : Word) : Encoding.Statement (.oraAby a) :=
  ⟨rfl, (by decide : 3 = opcodeLength 0x19)⟩
theorem Encoding.oraAbx (a : Word) : Encoding.Statement (.oraAbx a) :=
  ⟨rfl, (by decide : 3 = opcodeLength 0x1D)⟩
theorem Encoding.eorIzx (z : Byte) : Encoding.Statement (.eorIzx z) :=
  ⟨rfl, (by decide : 2 = opcodeLength 0x41)⟩
theorem Encoding.eorZp (z : Byte) : Encoding.Statement (.eorZp z) :=
  ⟨rfl, (by decide : 2 = opcodeLength 0x45)⟩
theorem Encoding.eorImm (m : Byte) : Encoding.Statement (.eorImm m) :=
  ⟨rfl, (by decide : 2 = opcodeLength 0x49)⟩
theorem Encoding.eorAbs (a : Word) : Encoding.Statement (.eorAbs a) :=
  ⟨rfl, (by decide : 3 = opcodeLength 0x4D)⟩
theorem Encoding.eorIzy (z : Byte) : Encoding.Statement (.eorIzy z) :=
  ⟨rfl, (by decide : 2 = opcodeLength 0x51)⟩
theorem Encoding.eorZpx (z : Byte) : Encoding.Statement (.eorZpx z) :=
  ⟨rfl, (by decide : 2 = opcodeLength 0x55)⟩
theorem Encoding.eorAby (a : Word) : Encoding.Statement (.eorAby a) :=
  ⟨rfl, (by decide : 3 = opcodeLength 0x59)⟩
theorem Encoding.eorAbx (a : Word) : Encoding.Statement (.eorAbx a) :=
  ⟨rfl, (by decide : 3 = opcodeLength 0x5D)⟩
theorem Encoding.bitZp (z : Byte) : Encoding.Statement (.bitZp z) :=
  ⟨rfl, (by decide : 2 = opcodeLength 0x24)⟩
theorem Encoding.bitAbs (a : Word) : Encoding.Statement (.bitAbs a) :=
  ⟨rfl, (by decide : 3 = opcodeLength 0x2C)⟩
theorem Encoding.aslZp (z : Byte) : Encoding.Statement (.aslZp z) :=
  ⟨rfl, (by decide : 2 = opcodeLength 0x06)⟩
theorem Encoding.aslAbs (a : Word) : Encoding.Statement (.aslAbs a) :=
  ⟨rfl, (by decide : 3 = opcodeLength 0x0E)⟩
theorem Encoding.aslZpx (z : Byte) : Encoding.Statement (.aslZpx z) :=
  ⟨rfl, (by decide : 2 = opcodeLength 0x16)⟩
theorem Encoding.aslAbx (a : Word) : Encoding.Statement (.aslAbx a) :=
  ⟨rfl, (by decide : 3 = opcodeLength 0x1E)⟩
theorem Encoding.lsrZp (z : Byte) : Encoding.Statement (.lsrZp z) :=
  ⟨rfl, (by decide : 2 = opcodeLength 0x46)⟩
theorem Encoding.lsrAbs (a : Word) : Encoding.Statement (.lsrAbs a) :=
  ⟨rfl, (by decide : 3 = opcodeLength 0x4E)⟩
theorem Encoding.lsrZpx (z : Byte) : Encoding.Statement (.lsrZpx z) :=
  ⟨rfl, (by decide : 2 = opcodeLength 0x56)⟩
theorem Encoding.lsrAbx (a : Word) : Encoding.Statement (.lsrAbx a) :=
  ⟨rfl, (by decide : 3 = opcodeLength 0x5E)⟩
theorem Encoding.rolZp (z : Byte) : Encoding.Statement (.rolZp z) :=
  ⟨rfl, (by decide : 2 = opcodeLength 0x26)⟩
theorem Encoding.rolAbs (a : Word) : Encoding.Statement (.rolAbs a) :=
  ⟨rfl, (by decide : 3 = opcodeLength 0x2E)⟩
theorem Encoding.rolZpx (z : Byte) : Encoding.Statement (.rolZpx z) :=
  ⟨rfl, (by decide : 2 = opcodeLength 0x36)⟩
theorem Encoding.rolAbx (a : Word) : Encoding.Statement (.rolAbx a) :=
  ⟨rfl, (by decide : 3 = opcodeLength 0x3E)⟩
theorem Encoding.rorZp (z : Byte) : Encoding.Statement (.rorZp z) :=
  ⟨rfl, (by decide : 2 = opcodeLength 0x66)⟩
theorem Encoding.rorAbs (a : Word) : Encoding.Statement (.rorAbs a) :=
  ⟨rfl, (by decide : 3 = opcodeLength 0x6E)⟩
theorem Encoding.rorZpx (z : Byte) : Encoding.Statement (.rorZpx z) :=
  ⟨rfl, (by decide : 2 = opcodeLength 0x76)⟩
theorem Encoding.rorAbx (a : Word) : Encoding.Statement (.rorAbx a) :=
  ⟨rfl, (by decide : 3 = opcodeLength 0x7E)⟩
theorem Encoding.bcc (off : Byte) : Encoding.Statement (.bcc off) :=
  ⟨rfl, (by decide : 2 = opcodeLength 0x90)⟩
theorem Encoding.bcs (off : Byte) : Encoding.Statement (.bcs off) :=
  ⟨rfl, (by decide : 2 = opcodeLength 0xB0)⟩
theorem Encoding.beq (off : Byte) : Encoding.Statement (.beq off) :=
  ⟨rfl, (by decide : 2 = opcodeLength 0xF0)⟩
theorem Encoding.bne (off : Byte) : Encoding.Statement (.bne off) :=
  ⟨rfl, (by decide : 2 = opcodeLength 0xD0)⟩
theorem Encoding.bmi (off : Byte) : Encoding.Statement (.bmi off) :=
  ⟨rfl, (by decide : 2 = opcodeLength 0x30)⟩
theorem Encoding.bpl (off : Byte) : Encoding.Statement (.bpl off) :=
  ⟨rfl, (by decide : 2 = opcodeLength 0x10)⟩
theorem Encoding.bvc (off : Byte) : Encoding.Statement (.bvc off) :=
  ⟨rfl, (by decide : 2 = opcodeLength 0x50)⟩
theorem Encoding.bvs (off : Byte) : Encoding.Statement (.bvs off) :=
  ⟨rfl, (by decide : 2 = opcodeLength 0x70)⟩
theorem Encoding.jmpAbs (a : Word) : Encoding.Statement (.jmpAbs a) :=
  ⟨rfl, (by decide : 3 = opcodeLength 0x4C)⟩
theorem Encoding.jmpInd (a : Word) : Encoding.Statement (.jmpInd a) :=
  ⟨rfl, (by decide : 3 = opcodeLength 0x6C)⟩
theorem Encoding.jsr (a : Word) : Encoding.Statement (.jsr a) :=
  ⟨rfl, (by decide : 3 = opcodeLength 0x20)⟩
theorem Encoding.brk (sig : Byte) : Encoding.Statement (.brk sig) :=
  ⟨rfl, (by decide : 2 = opcodeLength 0x00)⟩
theorem Encoding.sloIzx (z : Byte) : Encoding.Statement (.sloIzx z) :=
  ⟨rfl, (by decide : 2 = opcodeLength 0x03)⟩
theorem Encoding.sloZp (z : Byte) : Encoding.Statement (.sloZp z) :=
  ⟨rfl, (by decide : 2 = opcodeLength 0x07)⟩
theorem Encoding.sloAbs (a : Word) : Encoding.Statement (.sloAbs a) :=
  ⟨rfl, (by decide : 3 = opcodeLength 0x0F)⟩
theorem Encoding.sloIzy (z : Byte) : Encoding.Statement (.sloIzy z) :=
  ⟨rfl, (by decide : 2 = opcodeLength 0x13)⟩
theorem Encoding.sloZpx (z : Byte) : Encoding.Statement (.sloZpx z) :=
  ⟨rfl, (by decide : 2 = opcodeLength 0x17)⟩
theorem Encoding.sloAby (a : Word) : Encoding.Statement (.sloAby a) :=
  ⟨rfl, (by decide : 3 = opcodeLength 0x1B)⟩
theorem Encoding.sloAbx (a : Word) : Encoding.Statement (.sloAbx a) :=
  ⟨rfl, (by decide : 3 = opcodeLength 0x1F)⟩
theorem Encoding.rlaIzx (z : Byte) : Encoding.Statement (.rlaIzx z) :=
  ⟨rfl, (by decide : 2 = opcodeLength 0x23)⟩
theorem Encoding.rlaZp (z : Byte) : Encoding.Statement (.rlaZp z) :=
  ⟨rfl, (by decide : 2 = opcodeLength 0x27)⟩
theorem Encoding.rlaAbs (a : Word) : Encoding.Statement (.rlaAbs a) :=
  ⟨rfl, (by decide : 3 = opcodeLength 0x2F)⟩
theorem Encoding.rlaIzy (z : Byte) : Encoding.Statement (.rlaIzy z) :=
  ⟨rfl, (by decide : 2 = opcodeLength 0x33)⟩
theorem Encoding.rlaZpx (z : Byte) : Encoding.Statement (.rlaZpx z) :=
  ⟨rfl, (by decide : 2 = opcodeLength 0x37)⟩
theorem Encoding.rlaAby (a : Word) : Encoding.Statement (.rlaAby a) :=
  ⟨rfl, (by decide : 3 = opcodeLength 0x3B)⟩
theorem Encoding.rlaAbx (a : Word) : Encoding.Statement (.rlaAbx a) :=
  ⟨rfl, (by decide : 3 = opcodeLength 0x3F)⟩
theorem Encoding.sreIzx (z : Byte) : Encoding.Statement (.sreIzx z) :=
  ⟨rfl, (by decide : 2 = opcodeLength 0x43)⟩
theorem Encoding.sreZp (z : Byte) : Encoding.Statement (.sreZp z) :=
  ⟨rfl, (by decide : 2 = opcodeLength 0x47)⟩
theorem Encoding.sreAbs (a : Word) : Encoding.Statement (.sreAbs a) :=
  ⟨rfl, (by decide : 3 = opcodeLength 0x4F)⟩
theorem Encoding.sreIzy (z : Byte) : Encoding.Statement (.sreIzy z) :=
  ⟨rfl, (by decide : 2 = opcodeLength 0x53)⟩
theorem Encoding.sreZpx (z : Byte) : Encoding.Statement (.sreZpx z) :=
  ⟨rfl, (by decide : 2 = opcodeLength 0x57)⟩
theorem Encoding.sreAby (a : Word) : Encoding.Statement (.sreAby a) :=
  ⟨rfl, (by decide : 3 = opcodeLength 0x5B)⟩
theorem Encoding.sreAbx (a : Word) : Encoding.Statement (.sreAbx a) :=
  ⟨rfl, (by decide : 3 = opcodeLength 0x5F)⟩
theorem Encoding.rraIzx (z : Byte) : Encoding.Statement (.rraIzx z) :=
  ⟨rfl, (by decide : 2 = opcodeLength 0x63)⟩
theorem Encoding.rraZp (z : Byte) : Encoding.Statement (.rraZp z) :=
  ⟨rfl, (by decide : 2 = opcodeLength 0x67)⟩
theorem Encoding.rraAbs (a : Word) : Encoding.Statement (.rraAbs a) :=
  ⟨rfl, (by decide : 3 = opcodeLength 0x6F)⟩
theorem Encoding.rraIzy (z : Byte) : Encoding.Statement (.rraIzy z) :=
  ⟨rfl, (by decide : 2 = opcodeLength 0x73)⟩
theorem Encoding.rraZpx (z : Byte) : Encoding.Statement (.rraZpx z) :=
  ⟨rfl, (by decide : 2 = opcodeLength 0x77)⟩
theorem Encoding.rraAby (a : Word) : Encoding.Statement (.rraAby a) :=
  ⟨rfl, (by decide : 3 = opcodeLength 0x7B)⟩
theorem Encoding.rraAbx (a : Word) : Encoding.Statement (.rraAbx a) :=
  ⟨rfl, (by decide : 3 = opcodeLength 0x7F)⟩
theorem Encoding.saxIzx (z : Byte) : Encoding.Statement (.saxIzx z) :=
  ⟨rfl, (by decide : 2 = opcodeLength 0x83)⟩
theorem Encoding.saxZp (z : Byte) : Encoding.Statement (.saxZp z) :=
  ⟨rfl, (by decide : 2 = opcodeLength 0x87)⟩
theorem Encoding.saxAbs (a : Word) : Encoding.Statement (.saxAbs a) :=
  ⟨rfl, (by decide : 3 = opcodeLength 0x8F)⟩
theorem Encoding.saxZpy (z : Byte) : Encoding.Statement (.saxZpy z) :=
  ⟨rfl, (by decide : 2 = opcodeLength 0x97)⟩
theorem Encoding.laxIzx (z : Byte) : Encoding.Statement (.laxIzx z) :=
  ⟨rfl, (by decide : 2 = opcodeLength 0xA3)⟩
theorem Encoding.laxZp (z : Byte) : Encoding.Statement (.laxZp z) :=
  ⟨rfl, (by decide : 2 = opcodeLength 0xA7)⟩
theorem Encoding.laxAbs (a : Word) : Encoding.Statement (.laxAbs a) :=
  ⟨rfl, (by decide : 3 = opcodeLength 0xAF)⟩
theorem Encoding.laxIzy (z : Byte) : Encoding.Statement (.laxIzy z) :=
  ⟨rfl, (by decide : 2 = opcodeLength 0xB3)⟩
theorem Encoding.laxZpy (z : Byte) : Encoding.Statement (.laxZpy z) :=
  ⟨rfl, (by decide : 2 = opcodeLength 0xB7)⟩
theorem Encoding.laxAby (a : Word) : Encoding.Statement (.laxAby a) :=
  ⟨rfl, (by decide : 3 = opcodeLength 0xBF)⟩
theorem Encoding.dcpIzx (z : Byte) : Encoding.Statement (.dcpIzx z) :=
  ⟨rfl, (by decide : 2 = opcodeLength 0xC3)⟩
theorem Encoding.dcpZp (z : Byte) : Encoding.Statement (.dcpZp z) :=
  ⟨rfl, (by decide : 2 = opcodeLength 0xC7)⟩
theorem Encoding.dcpAbs (a : Word) : Encoding.Statement (.dcpAbs a) :=
  ⟨rfl, (by decide : 3 = opcodeLength 0xCF)⟩
theorem Encoding.dcpIzy (z : Byte) : Encoding.Statement (.dcpIzy z) :=
  ⟨rfl, (by decide : 2 = opcodeLength 0xD3)⟩
theorem Encoding.dcpZpx (z : Byte) : Encoding.Statement (.dcpZpx z) :=
  ⟨rfl, (by decide : 2 = opcodeLength 0xD7)⟩
theorem Encoding.dcpAby (a : Word) : Encoding.Statement (.dcpAby a) :=
  ⟨rfl, (by decide : 3 = opcodeLength 0xDB)⟩
theorem Encoding.dcpAbx (a : Word) : Encoding.Statement (.dcpAbx a) :=
  ⟨rfl, (by decide : 3 = opcodeLength 0xDF)⟩
theorem Encoding.iscIzx (z : Byte) : Encoding.Statement (.iscIzx z) :=
  ⟨rfl, (by decide : 2 = opcodeLength 0xE3)⟩
theorem Encoding.iscZp (z : Byte) : Encoding.Statement (.iscZp z) :=
  ⟨rfl, (by decide : 2 = opcodeLength 0xE7)⟩
theorem Encoding.iscAbs (a : Word) : Encoding.Statement (.iscAbs a) :=
  ⟨rfl, (by decide : 3 = opcodeLength 0xEF)⟩
theorem Encoding.iscIzy (z : Byte) : Encoding.Statement (.iscIzy z) :=
  ⟨rfl, (by decide : 2 = opcodeLength 0xF3)⟩
theorem Encoding.iscZpx (z : Byte) : Encoding.Statement (.iscZpx z) :=
  ⟨rfl, (by decide : 2 = opcodeLength 0xF7)⟩
theorem Encoding.iscAby (a : Word) : Encoding.Statement (.iscAby a) :=
  ⟨rfl, (by decide : 3 = opcodeLength 0xFB)⟩
theorem Encoding.iscAbx (a : Word) : Encoding.Statement (.iscAbx a) :=
  ⟨rfl, (by decide : 3 = opcodeLength 0xFF)⟩
theorem Encoding.ancImm0B (m : Byte) : Encoding.Statement (.ancImm0B m) :=
  ⟨rfl, (by decide : 2 = opcodeLength 0x0B)⟩
theorem Encoding.ancImm2B (m : Byte) : Encoding.Statement (.ancImm2B m) :=
  ⟨rfl, (by decide : 2 = opcodeLength 0x2B)⟩
theorem Encoding.alrImm (m : Byte) : Encoding.Statement (.alrImm m) :=
  ⟨rfl, (by decide : 2 = opcodeLength 0x4B)⟩
theorem Encoding.arrImm (m : Byte) : Encoding.Statement (.arrImm m) :=
  ⟨rfl, (by decide : 2 = opcodeLength 0x6B)⟩
theorem Encoding.axsImm (m : Byte) : Encoding.Statement (.axsImm m) :=
  ⟨rfl, (by decide : 2 = opcodeLength 0xCB)⟩
theorem Encoding.usbcImm (m : Byte) : Encoding.Statement (.usbcImm m) :=
  ⟨rfl, (by decide : 2 = opcodeLength 0xEB)⟩
theorem Encoding.nopZp04 (z : Byte) : Encoding.Statement (.nopZp04 z) :=
  ⟨rfl, (by decide : 2 = opcodeLength 0x04)⟩
theorem Encoding.nopAbs (a : Word) : Encoding.Statement (.nopAbs a) :=
  ⟨rfl, (by decide : 3 = opcodeLength 0x0C)⟩
theorem Encoding.nopZpx14 (z : Byte) : Encoding.Statement (.nopZpx14 z) :=
  ⟨rfl, (by decide : 2 = opcodeLength 0x14)⟩
theorem Encoding.nopAbx1C (a : Word) : Encoding.Statement (.nopAbx1C a) :=
  ⟨rfl, (by decide : 3 = opcodeLength 0x1C)⟩
theorem Encoding.nopZpx34 (z : Byte) : Encoding.Statement (.nopZpx34 z) :=
  ⟨rfl, (by decide : 2 = opcodeLength 0x34)⟩
theorem Encoding.nopAbx3C (a : Word) : Encoding.Statement (.nopAbx3C a) :=
  ⟨rfl, (by decide : 3 = opcodeLength 0x3C)⟩
theorem Encoding.nopZp44 (z : Byte) : Encoding.Statement (.nopZp44 z) :=
  ⟨rfl, (by decide : 2 = opcodeLength 0x44)⟩
theorem Encoding.nopZpx54 (z : Byte) : Encoding.Statement (.nopZpx54 z) :=
  ⟨rfl, (by decide : 2 = opcodeLength 0x54)⟩
theorem Encoding.nopAbx5C (a : Word) : Encoding.Statement (.nopAbx5C a) :=
  ⟨rfl, (by decide : 3 = opcodeLength 0x5C)⟩
theorem Encoding.nopZp64 (z : Byte) : Encoding.Statement (.nopZp64 z) :=
  ⟨rfl, (by decide : 2 = opcodeLength 0x64)⟩
theorem Encoding.nopZpx74 (z : Byte) : Encoding.Statement (.nopZpx74 z) :=
  ⟨rfl, (by decide : 2 = opcodeLength 0x74)⟩
theorem Encoding.nopAbx7C (a : Word) : Encoding.Statement (.nopAbx7C a) :=
  ⟨rfl, (by decide : 3 = opcodeLength 0x7C)⟩
theorem Encoding.nopImm80 (m : Byte) : Encoding.Statement (.nopImm80 m) :=
  ⟨rfl, (by decide : 2 = opcodeLength 0x80)⟩
theorem Encoding.nopImm82 (m : Byte) : Encoding.Statement (.nopImm82 m) :=
  ⟨rfl, (by decide : 2 = opcodeLength 0x82)⟩
theorem Encoding.nopImm89 (m : Byte) : Encoding.Statement (.nopImm89 m) :=
  ⟨rfl, (by decide : 2 = opcodeLength 0x89)⟩
theorem Encoding.nopImmC2 (m : Byte) : Encoding.Statement (.nopImmC2 m) :=
  ⟨rfl, (by decide : 2 = opcodeLength 0xC2)⟩
theorem Encoding.nopZpxD4 (z : Byte) : Encoding.Statement (.nopZpxD4 z) :=
  ⟨rfl, (by decide : 2 = opcodeLength 0xD4)⟩
theorem Encoding.nopAbxDC (a : Word) : Encoding.Statement (.nopAbxDC a) :=
  ⟨rfl, (by decide : 3 = opcodeLength 0xDC)⟩
theorem Encoding.nopImmE2 (m : Byte) : Encoding.Statement (.nopImmE2 m) :=
  ⟨rfl, (by decide : 2 = opcodeLength 0xE2)⟩
theorem Encoding.nopZpxF4 (z : Byte) : Encoding.Statement (.nopZpxF4 z) :=
  ⟨rfl, (by decide : 2 = opcodeLength 0xF4)⟩
theorem Encoding.nopAbxFC (a : Word) : Encoding.Statement (.nopAbxFC a) :=
  ⟨rfl, (by decide : 3 = opcodeLength 0xFC)⟩
theorem Encoding.lasAby (a : Word) : Encoding.Statement (.lasAby a) :=
  ⟨rfl, (by decide : 3 = opcodeLength 0xBB)⟩
theorem Encoding.aneImm (m : Byte) : Encoding.Statement (.aneImm m) :=
  ⟨rfl, (by decide : 2 = opcodeLength 0x8B)⟩
theorem Encoding.shaIzy (z : Byte) : Encoding.Statement (.shaIzy z) :=
  ⟨rfl, (by decide : 2 = opcodeLength 0x93)⟩
theorem Encoding.tasAby (a : Word) : Encoding.Statement (.tasAby a) :=
  ⟨rfl, (by decide : 3 = opcodeLength 0x9B)⟩
theorem Encoding.shyAbx (a : Word) : Encoding.Statement (.shyAbx a) :=
  ⟨rfl, (by decide : 3 = opcodeLength 0x9C)⟩
theorem Encoding.shxAby (a : Word) : Encoding.Statement (.shxAby a) :=
  ⟨rfl, (by decide : 3 = opcodeLength 0x9E)⟩
theorem Encoding.shaAby (a : Word) : Encoding.Statement (.shaAby a) :=
  ⟨rfl, (by decide : 3 = opcodeLength 0x9F)⟩
theorem Encoding.lxaImm (m : Byte) : Encoding.Statement (.lxaImm m) :=
  ⟨rfl, (by decide : 2 = opcodeLength 0xAB)⟩
theorem Encoding.tax : Encoding.Statement (.tax) :=
  ⟨rfl, (by decide : 1 = opcodeLength 0xAA)⟩
theorem Encoding.tay : Encoding.Statement (.tay) :=
  ⟨rfl, (by decide : 1 = opcodeLength 0xA8)⟩
theorem Encoding.txa : Encoding.Statement (.txa) :=
  ⟨rfl, (by decide : 1 = opcodeLength 0x8A)⟩
theorem Encoding.tya : Encoding.Statement (.tya) :=
  ⟨rfl, (by decide : 1 = opcodeLength 0x98)⟩
theorem Encoding.tsx : Encoding.Statement (.tsx) :=
  ⟨rfl, (by decide : 1 = opcodeLength 0xBA)⟩
theorem Encoding.txs : Encoding.Statement (.txs) :=
  ⟨rfl, (by decide : 1 = opcodeLength 0x9A)⟩
theorem Encoding.pha : Encoding.Statement (.pha) :=
  ⟨rfl, (by decide : 1 = opcodeLength 0x48)⟩
theorem Encoding.php : Encoding.Statement (.php) :=
  ⟨rfl, (by decide : 1 = opcodeLength 0x08)⟩
theorem Encoding.pla : Encoding.Statement (.pla) :=
  ⟨rfl, (by decide : 1 = opcodeLength 0x68)⟩
theorem Encoding.plp : Encoding.Statement (.plp) :=
  ⟨rfl, (by decide : 1 = opcodeLength 0x28)⟩
theorem Encoding.inx : Encoding.Statement (.inx) :=
  ⟨rfl, (by decide : 1 = opcodeLength 0xE8)⟩
theorem Encoding.iny : Encoding.Statement (.iny) :=
  ⟨rfl, (by decide : 1 = opcodeLength 0xC8)⟩
theorem Encoding.dex : Encoding.Statement (.dex) :=
  ⟨rfl, (by decide : 1 = opcodeLength 0xCA)⟩
theorem Encoding.dey : Encoding.Statement (.dey) :=
  ⟨rfl, (by decide : 1 = opcodeLength 0x88)⟩
theorem Encoding.aslAcc : Encoding.Statement (.aslAcc) :=
  ⟨rfl, (by decide : 1 = opcodeLength 0x0A)⟩
theorem Encoding.lsrAcc : Encoding.Statement (.lsrAcc) :=
  ⟨rfl, (by decide : 1 = opcodeLength 0x4A)⟩
theorem Encoding.rolAcc : Encoding.Statement (.rolAcc) :=
  ⟨rfl, (by decide : 1 = opcodeLength 0x2A)⟩
theorem Encoding.rorAcc : Encoding.Statement (.rorAcc) :=
  ⟨rfl, (by decide : 1 = opcodeLength 0x6A)⟩
theorem Encoding.rts : Encoding.Statement (.rts) :=
  ⟨rfl, (by decide : 1 = opcodeLength 0x60)⟩
theorem Encoding.rti : Encoding.Statement (.rti) :=
  ⟨rfl, (by decide : 1 = opcodeLength 0x40)⟩
theorem Encoding.nop : Encoding.Statement (.nop) :=
  ⟨rfl, (by decide : 1 = opcodeLength 0xEA)⟩
theorem Encoding.clc : Encoding.Statement (.clc) :=
  ⟨rfl, (by decide : 1 = opcodeLength 0x18)⟩
theorem Encoding.sec : Encoding.Statement (.sec) :=
  ⟨rfl, (by decide : 1 = opcodeLength 0x38)⟩
theorem Encoding.cli : Encoding.Statement (.cli) :=
  ⟨rfl, (by decide : 1 = opcodeLength 0x58)⟩
theorem Encoding.sei : Encoding.Statement (.sei) :=
  ⟨rfl, (by decide : 1 = opcodeLength 0x78)⟩
theorem Encoding.cld : Encoding.Statement (.cld) :=
  ⟨rfl, (by decide : 1 = opcodeLength 0xD8)⟩
theorem Encoding.sed : Encoding.Statement (.sed) :=
  ⟨rfl, (by decide : 1 = opcodeLength 0xF8)⟩
theorem Encoding.clv : Encoding.Statement (.clv) :=
  ⟨rfl, (by decide : 1 = opcodeLength 0xB8)⟩
theorem Encoding.jam02 : Encoding.Statement (.jam02) :=
  ⟨rfl, (by decide : 1 = opcodeLength 0x02)⟩
theorem Encoding.jam12 : Encoding.Statement (.jam12) :=
  ⟨rfl, (by decide : 1 = opcodeLength 0x12)⟩
theorem Encoding.jam22 : Encoding.Statement (.jam22) :=
  ⟨rfl, (by decide : 1 = opcodeLength 0x22)⟩
theorem Encoding.jam32 : Encoding.Statement (.jam32) :=
  ⟨rfl, (by decide : 1 = opcodeLength 0x32)⟩
theorem Encoding.jam42 : Encoding.Statement (.jam42) :=
  ⟨rfl, (by decide : 1 = opcodeLength 0x42)⟩
theorem Encoding.jam52 : Encoding.Statement (.jam52) :=
  ⟨rfl, (by decide : 1 = opcodeLength 0x52)⟩
theorem Encoding.jam62 : Encoding.Statement (.jam62) :=
  ⟨rfl, (by decide : 1 = opcodeLength 0x62)⟩
theorem Encoding.jam72 : Encoding.Statement (.jam72) :=
  ⟨rfl, (by decide : 1 = opcodeLength 0x72)⟩
theorem Encoding.jam92 : Encoding.Statement (.jam92) :=
  ⟨rfl, (by decide : 1 = opcodeLength 0x92)⟩
theorem Encoding.jamB2 : Encoding.Statement (.jamB2) :=
  ⟨rfl, (by decide : 1 = opcodeLength 0xB2)⟩
theorem Encoding.jamD2 : Encoding.Statement (.jamD2) :=
  ⟨rfl, (by decide : 1 = opcodeLength 0xD2)⟩
theorem Encoding.jamF2 : Encoding.Statement (.jamF2) :=
  ⟨rfl, (by decide : 1 = opcodeLength 0xF2)⟩
theorem Encoding.nopImp1A : Encoding.Statement (.nopImp1A) :=
  ⟨rfl, (by decide : 1 = opcodeLength 0x1A)⟩
theorem Encoding.nopImp3A : Encoding.Statement (.nopImp3A) :=
  ⟨rfl, (by decide : 1 = opcodeLength 0x3A)⟩
theorem Encoding.nopImp5A : Encoding.Statement (.nopImp5A) :=
  ⟨rfl, (by decide : 1 = opcodeLength 0x5A)⟩
theorem Encoding.nopImp7A : Encoding.Statement (.nopImp7A) :=
  ⟨rfl, (by decide : 1 = opcodeLength 0x7A)⟩
theorem Encoding.nopImpDA : Encoding.Statement (.nopImpDA) :=
  ⟨rfl, (by decide : 1 = opcodeLength 0xDA)⟩
theorem Encoding.nopImpFA : Encoding.Statement (.nopImpFA) :=
  ⟨rfl, (by decide : 1 = opcodeLength 0xFA)⟩

end Sys2Proof.Laws
end

