-- ==== Sys2Proof/Machine/Frame.lean ====
section
/-! DEFINITION. renderFrame (60_exceptions.md R852, D39, D51): whole steps until the frame-available flag is 1. -/

namespace Sys2Proof.Machine

/-- The framebuffer copied out, row by row (61_ppu.md R901). -/
def frameBuffer (s : State) : List (BitVec 32) := (List.range 61440).map (framePixel s)

/-- The state after the frame has been taken. -/
def takeFrame (s : State) : State := { s with ppu := { s.ppu with frameAvailable := false } }

/-- Steps until a frame is available, at most `fuel` of them; none where the fuel does not reach it. -/
def runToFrame : Nat → State → Option Result
  | fuel, s =>
    if s.ppu.frameAvailable then some (.next s)
    else
      match fuel with
      | 0 => none
      | n + 1 =>
        match step s with
        | .next t => runToFrame n t
        | .fault r => some (.fault r)
        | .refused r => some (.refused r)

/-- `renderFrame(buffer)`: the state after it and the buffer; refused with no cartridge (R853). -/
def renderFrame (fuel : Nat) (s : State) : Option (Host.Outcome (State × List (BitVec 32)) Fault Refusal) :=
  if s.present then
    match runToFrame fuel s with
    | none => none
    | some (.next t) => some (.next (takeFrame t, frameBuffer t))
    | some (.fault r) => some (.fault r)
    | some (.refused r) => some (.refused r)
  else some (.refused .noCartridge)

end Sys2Proof.Machine
end

