-- ==== Sys2Proof/Tests/Slice0.lean ====
section
/-! SUPPORT. Tests. Expected results are from spec/95_test_vectors.md (its vector names stand in the comments) or worked out by
hand from the rule named. The witnesses at the end show that the hypotheses of each obligation can be met. -/

namespace Sys2Proof.Tests

-- The many small kernel evaluations below run one after another.
set_option Elab.async false

open Sys2Proof.Machine

/-! ## Helpers: the machine of 95_test_vectors.md's conventions -/

/-- Bytes at 0x8000 of a 16 KiB NROM cartridge whose vectors are NMI 0x8100, RESET 0x8000, IRQ/BRK 0x8080; PC = 0x8000. -/
def machine (bs : List Byte) : State :=
  { State.reset with
    cart := { blankCartridge with prgRom :=
      { size := 0x4000
        bytes := sparseOfList 0 bs ++ [(0x3FFB, 0x81), (0x3FFD, 0x80), (0x3FFE, 0x80), (0x3FFF, 0x80)] } }
    cpu := { State.reset.cpu with pc := 0x8000 } }

/-- The same under another policy. -/
def under (p : UndocPolicy) (s : State) : State := { s with params := { s.params with undocPolicy := p } }

/-- A byte in RAM. -/
def poke (k : Nat) (v : Byte) (s : State) : State := { s with ram := sparseWrite s.ram k v }

def withA (v : Byte) (s : State) : State := s.setCpu { s.cpu with a := v }
def withX (v : Byte) (s : State) : State := s.setCpu { s.cpu with x := v }
def withY (v : Byte) (s : State) : State := s.setCpu { s.cpu with y := v }
def withC (s : State) : State := s.setCpu { s.cpu with c := true }

/-- The state after a step; the state itself where there is none. -/
def ran (s : State) : State :=
  match step s with
  | .next t => t
  | _ => s

/-- The step is refused. -/
def refusedBy (s : State) (r : Refusal) : Bool :=
  match step s with
  | .refused q => decide (q = r)
  | _ => false

/-- A state with another chip, PRG size and CHR size. -/
def board (chip : Chip) (prg chr : Nat) : State :=
  { State.reset with
    cart := { blankCartridge with prgRom := { size := prg, bytes := [] }, chrRom := some { size := chr, bytes := [] } }
    mapper := { State.reset.mapper with chip := chip } }

/-- A state with another PPU. -/
def withPpu (f : Ppu → Ppu) (s : State) : State := { s with ppu := f s.ppu }

/-! ## Well-formedness: an ill-formed cartridge for each check (21_cartridge_mappers.md R313, R314) -/

def badMapper : Cartridge := { blankCartridge with mapperId := .other 5, mapperNum := 5 }
def badBattery : Cartridge := { blankCartridge with prgRamSizeBattery := 0x2000, chrRamSizeBattery := 0x2000 }

theorem test_wellFormed_blank : blankCartridge.supported = true ∧ blankCartridge.oneBattery = true := by decide +kernel
theorem test_wellFormed_mapper : badMapper.supported = false
    ∧ (setCartridge (some badMapper) State.reset).2 = some (.unsupportedMapper 5) := by decide +kernel
theorem test_wellFormed_battery : badBattery.oneBattery = false
    ∧ (setCartridge (some badBattery) State.reset).2 = some .bothBatteries := by decide +kernel

/-! ## Decoding: words written out bit by bit from 30_encoding.md R405 -/

theorem test_decode_load : decode [0b10101001, 0b10000000] = .ok (.ldaImm 0x80, []) := rfl
theorem test_decode_store : decode [0b10001101, 0b00000000, 0b00000010] = .ok (.staAbs 0x0200, []) := rfl
theorem test_decode_transfer : decode [0b10111010] = .ok (.tsx, []) := rfl
theorem test_decode_stack : decode [0b01001000] = .ok (.pha, []) := rfl
theorem test_decode_arithmetic : decode [0b11110001, 0b00100000] = .ok (.sbcIzy 0x20, []) := rfl
theorem test_decode_logic : decode [0b00101100, 0b00000010, 0b00100000] = .ok (.bitAbs 0x2002, []) := rfl
theorem test_decode_shift : decode [0b01101010] = .ok (.rorAcc, []) := rfl
theorem test_decode_branch : decode [0b11010000, 0b11111110] = .ok (.bne 0xFE, []) := rfl
theorem test_decode_jump : decode [0b01101100, 0b11111111, 0b00000010] = .ok (.jmpInd 0x02FF, []) := rfl
theorem test_decode_system : decode [0b00000000, 0b11101010] = .ok (.brk 0xEA, []) := rfl
theorem test_decode_undocumented : decode [0b00000111, 0b00010000] = .ok (.sloZp 0x10, []) := rfl
theorem test_decode_short : decode [0x8D, 0x00] = .error (.operandMissing 0x8D) := rfl
theorem test_tableWord : decodeTableWord 24 0x02008D = some (.staAbs 0x0200) := by decide +kernel

/-! ## Instructions (95_test_vectors.md section 3) -/

/-- A1. -/
theorem test_lda_zpx : let t := ran (poke 1 0x77 (withX 2 (machine [0xB5, 0xFF])))
    (t.cpu.a, t.cycles) = (0x77, 4) := by decide +kernel
/-- A2. -/
theorem test_lda_abx : let t := ran (withX 1 (machine [0xBD, 0xFF, 0x10]))
    (t.cpu.a, t.cpu.z, t.cycles) = (0x00, true, 5) := by decide +kernel
/-- A3. -/
theorem test_sta_abx : let t := ran (withA 0x42 (withX 1 (machine [0x9D, 0xFF, 0x10])))
    (sparseRead t.ram 0x100, t.cycles) = (0x42, 5) := by decide +kernel
/-- A4. -/
theorem test_lda_izx : let t := ran (poke 0x234 0x99 (poke 0xFF 0x34 (poke 0 0x02 (machine [0xA1, 0xFF]))))
    (t.cpu.a, t.cycles) = (0x99, 6) := by decide +kernel
/-- A5. -/
theorem test_lda_izy : let t := ran (poke 0x308 0x99 (poke 0x20 0xF8 (poke 0x21 0x02 (withY 0x10 (machine [0xB1, 0x20])))))
    (t.cpu.a, t.cycles) = (0x99, 6) := by decide +kernel
/-- A7. -/
theorem test_ldx_zpy : let t := ran (poke 0 0x80 (withY 1 (machine [0xB6, 0xFF])))
    (t.cpu.x, t.cpu.n, t.cycles) = (0x80, true, 4) := by decide +kernel
/-- R522 by hand. -/
theorem test_ldy_imm : let t := ran (machine [0xA0, 0x00]); (t.cpu.y, t.cpu.z) = (0, true) := by decide +kernel
/-- T4. -/
theorem test_sta_mirror : let t := ran (withA 0x42 (machine [0x8D, 0x00, 0x0A])); sparseRead t.ram 0x200 = 0x42 := by decide +kernel
/-- T5. -/
theorem test_txs : let t := ran (machine [0x9A]); (t.cpu.s, t.cpu.z, t.cpu.n) = (0x00, false, false) := by decide +kernel
/-- T6. -/
theorem test_pha : let s := withA 0x99 (machine [0x48])
    let t := ran (s.setS 0x00)
    (sparseRead t.ram 0x100, t.cpu.s, t.cycles) = (0x99, 0xFF, 3) := by decide +kernel
/-- T7. -/
theorem test_pla : let t := ran (poke 0x100 0x80 ((machine [0x68]).setS 0xFF))
    (t.cpu.a, t.cpu.s, t.cpu.n, t.cycles) = (0x80, 0x00, true, 4) := by decide +kernel
/-- P6. -/
theorem test_php : let t := ran (machine [0x08]); (sparseRead t.ram 0x1FD, t.cpu.s) = (0x34, 0xFC) := by decide +kernel
/-- T9. -/
theorem test_plp : let t := ran (machine [0x28]); (t.cpu.i, packP true t.cpu) = (false, 0x30) := by decide +kernel
/-- T10. -/
theorem test_tsx : let t := ran (machine [0xBA]); (t.cpu.x, t.cpu.n) = (0xFD, true) := by decide +kernel
/-- R1. -/
theorem test_adc_overflow : let t := ran (withA 0x50 (machine [0x69, 0x50]))
    (t.cpu.a, t.cpu.n, t.cpu.v, t.cpu.z, t.cpu.c) = (0xA0, true, true, false, false) := by decide +kernel
/-- R3. -/
theorem test_adc_carry : let t := ran (withA 0x80 (machine [0x69, 0x80]))
    (t.cpu.a, t.cpu.z, t.cpu.c, t.cpu.v) = (0x00, true, true, true) := by decide +kernel
/-- R5. -/
theorem test_sbc_borrow : let t := ran (withC (withA 0x50 (machine [0xE9, 0xF0])))
    (t.cpu.a, t.cpu.c, t.cpu.v) = (0x60, false, false) := by decide +kernel
/-- R6. -/
theorem test_sbc_overflow : let t := ran (withC (withA 0x50 (machine [0xE9, 0xB0])))
    (t.cpu.a, t.cpu.c, t.cpu.v, t.cpu.n) = (0xA0, false, true, true) := by decide +kernel
/-- R9. -/
theorem test_cmp : let t := ran (withA 0x40 (machine [0xC9, 0x41]))
    (t.cpu.c, t.cpu.z, t.cpu.n) = (false, false, true) := by decide +kernel
/-- R11. -/
theorem test_cpx : let t := ran (machine [0xE0, 0xFF]); (t.cpu.c, t.cpu.z, t.cpu.n) = (false, false, false) := by decide +kernel
/-- R12. -/
theorem test_inc : let t := ran (poke 0x10 0xFF (machine [0xE6, 0x10]))
    (sparseRead t.ram 0x10, t.cpu.z, t.cycles) = (0x00, true, 5) := by decide +kernel
/-- R13. -/
theorem test_dex : let t := ran (machine [0xCA]); (t.cpu.x, t.cpu.n) = (0xFF, true) := by decide +kernel
/-- R14. -/
theorem test_iny : let t := ran (withY 0xFF (machine [0xC8])); (t.cpu.y, t.cpu.z) = (0x00, true) := by decide +kernel
/-- S1. -/
theorem test_and : let t := ran (withA 0xF0 (machine [0x29, 0x0F])); (t.cpu.a, t.cpu.z) = (0, true) := by decide +kernel
/-- S2. -/
theorem test_bit : let t := ran (poke 0x10 0xC0 (machine [0x24, 0x10]))
    (t.cpu.z, t.cpu.n, t.cpu.v, t.cpu.a, t.cycles) = (true, true, true, 0, 3) := by decide +kernel
/-- S4. -/
theorem test_asl_acc : let t := ran (withA 0x80 (machine [0x0A])); (t.cpu.a, t.cpu.c, t.cpu.z) = (0, true, true) := by decide +kernel
/-- S5. -/
theorem test_ror_acc : let t := ran (withC (withA 0x01 (machine [0x6A])))
    (t.cpu.a, t.cpu.c, t.cpu.n) = (0x80, true, true) := by decide +kernel
/-- S6. -/
theorem test_lsr_abs : let t := ran (poke 0x300 0x01 (machine [0x4E, 0x00, 0x03]))
    (sparseRead t.ram 0x300, t.cpu.c, t.cpu.z, t.cycles) = (0, true, true, 6) := by decide +kernel
/-- S7. -/
theorem test_rol_abx : let t := ran (poke 0x301 0x40 (withC (withX 1 (machine [0x3E, 0x00, 0x03]))))
    (sparseRead t.ram 0x301, t.cpu.c, t.cpu.n, t.cycles) = (0x81, false, true, 7) := by decide +kernel
/-- B1. -/
theorem test_bne_taken : let t := ran (machine [0xD0, 0x05]); (t.cpu.pc, t.cycles) = (0x8007, 3) := by decide +kernel
/-- B4. -/
theorem test_bvc_back : let t := ran (machine [0x50, 0x80]); (t.cpu.pc, t.cycles) = (0x7F82, 4) := by decide +kernel
/-- A6. -/
theorem test_jmp_ind : let t := ran (poke 0x200 0x90 (machine [0x6C, 0xFF, 0x02]))
    (t.cpu.pc, t.cycles) = (0x9000, 5) := by decide +kernel
/-- B7. -/
theorem test_jsr : let t := ran (machine [0x20, 0x00, 0x90])
    (sparseRead t.ram 0x1FD, sparseRead t.ram 0x1FC, t.cpu.s, t.cpu.pc, t.cycles) = (0x80, 0x02, 0xFB, 0x9000, 6) := by decide +kernel
/-- B8. -/
theorem test_rts : let t := ran (poke 0x1FD 0x80 (poke 0x1FC 0x02 ((machine [0x60]).setS 0xFB)))
    (t.cpu.s, t.cpu.pc, t.cycles) = (0xFD, 0x8003, 6) := by decide +kernel
/-- Y1. -/
theorem test_brk : let t := ran (machine [0x00, 0xEA])
    (sparseRead t.ram 0x1FD, sparseRead t.ram 0x1FC, sparseRead t.ram 0x1FB, t.cpu.s, t.cpu.pc, t.cycles)
      = (0x80, 0x02, 0x34, 0xFA, 0x8080, 7) := by decide +kernel
/-- Y2. -/
theorem test_rti : let t := ran (poke 0x1FD 0x80 (poke 0x1FC 0x02 (poke 0x1FB 0x34 ((machine [0x40]).setS 0xFA))))
    (t.cpu.i, t.cpu.s, t.cpu.pc, t.cycles) = (true, 0xFD, 0x8002, 6) := by decide +kernel
/-- Y4. -/
theorem test_sed : (ran (machine [0xF8])).cpu.d = true := by decide +kernel
/-- U1. -/
theorem test_undoc_fault : let t := ran (machine [0xA7, 0x10])
    (t.cpu.fault, t.cpu.pc, t.cycles) = (some (0xA7, 0x8000), 0x8000, 1)
    ∧ refusedBy t (.faulted 0xA7 0x8000) = true := by decide +kernel
/-- U2. -/
theorem test_undoc_nop : let t := ran (under .nop (poke 0x10 0x80 (machine [0xA7, 0x10])))
    (t.cpu.a, t.cpu.pc, t.cycles) = (0x00, 0x8002, 3) := by decide +kernel
/-- U3. -/
theorem test_lax : let t := ran (under .nmos (poke 0x10 0x80 (machine [0xA7, 0x10])))
    (t.cpu.a, t.cpu.x, t.cpu.n, t.cpu.z, t.cpu.pc, t.cycles) = (0x80, 0x80, true, false, 0x8002, 3) := by decide +kernel
/-- U4. -/
theorem test_jam_nop : let t := ran (under .nop (machine [0x02])); (t.cpu.pc, t.cycles) = (0x8001, 2) := by decide +kernel
/-- U5. -/
theorem test_jam : let t := ran (under .nmos (machine [0x02]))
    (t.cpu.halted, t.cpu.pc, (ran t).cycles, (ran t).cpu) = (true, 0x8001, 1, t.cpu) := by decide +kernel
/-- U6. -/
theorem test_ane : (ran (under .nmos (machine [0x8B, 0x00]))).cpu.fault = some (0x8B, 0x8000) := by decide +kernel
/-- U7. -/
theorem test_axs : let t := ran (under .nmos (withX 0x0F (withA 0xFF (machine [0xCB, 0x01]))))
    (t.cpu.x, t.cpu.c) = (0x0E, true) := by decide +kernel
/-- U8. -/
theorem test_slo : let t := ran (under .nmos (poke 0x10 0x81 (withA 0x01 (machine [0x07, 0x10]))))
    (sparseRead t.ram 0x10, t.cpu.c, t.cpu.a, t.cycles) = (0x02, true, 0x03, 5) := by decide +kernel
/-- U9. -/
theorem test_dcp : let t := ran (under .nmos (poke 0x10 0x06 (withA 0x05 (machine [0xC7, 0x10]))))
    (sparseRead t.ram 0x10, t.cpu.z, t.cpu.c) = (0x05, true, true) := by decide +kernel
/-- U10. -/
theorem test_undocumented_nop : let t := ran (under .nmos (withX 1 (machine [0x1C, 0xFF, 0x10])))
    (t.cpu.pc, t.cycles) = (0x8003, 5) := by decide +kernel
/-- R730's example. -/
theorem test_arr : let t := ran (under .nmos (withC (withA 0xFF (machine [0x6B, 0xFF]))))
    (t.cpu.a, t.cpu.c, t.cpu.v, t.cpu.n) = (0xFF, true, false, true) := by decide +kernel
/-- R734's example. -/
theorem test_las : let t := ran (under .nmos (poke 0x10 0x0F (machine [0xBB, 0x10, 0x00])))
    (t.cpu.a, t.cpu.x, t.cpu.s) = (0x0D, 0x0D, 0x0D) := by decide +kernel

/-! ## Interrupts, DMA, reset (section 4) -/

/-- I1, with a NOP at the handler. -/
theorem test_nmi : let s := machine []
    let t := nmiEntry { s with
      cpu := { s.cpu with pc := 0x8123, c := true, i := false }
      pending := { s.pending with nmi := true } }
    (sparseRead t.ram 0x1FD, sparseRead t.ram 0x1FC, sparseRead t.ram 0x1FB) = (0x81, 0x23, 0x21)
    ∧ (t.cpu.s, t.cpu.i, t.pending.nmi, t.cpu.pc) = (0xFA, true, false, 0x8100) := by decide +kernel
/-- I3. -/
theorem test_irq : let s := machine []
    let t := ran { s with
      cpu := { s.cpu with pc := 0x8010, i := false }
      pending := { s.pending with irqDmc := true } }
    (sparseRead t.ram 0x1FD, sparseRead t.ram 0x1FC, t.pending.irqDmc) = (0x80, 0x10, true) := by decide +kernel
/-- I6. -/
theorem test_reset : let s := machine []
    let t := resetEntry { s with
      cpu := { s.cpu with s := 0xF0, a := 0x12, i := false }
      pending := { s.pending with reset := true, nmi := true } }
    (t.cpu.s, t.cpu.i, t.cpu.a, t.cpu.pc, t.pending.nmi, t.cycles) = (0xED, true, 0x12, 0x8000, false, 7) ∧ t.ram = [] := by decide +kernel

/-! ## Devices -/

/-- The loader's header L1: NES 2.0, mapper 4, submapper 1, both RAM codes, PAL. -/
def headerL1 : List Byte := [0x4E, 0x45, 0x53, 0x1A, 2, 1, 0x42, 0x08, 0x10, 0, 0x70, 7, 1, 0, 0, 0]
theorem test_loader_header : let h := headerOf headerL1
    (h.nes2, h.prgUnits, h.chrUnits) = (true, 2, 1)
    ∧ (h.mirroring, h.mapperNum, h.submapperId, h.region) = (.horizontal, 4, some 1, .pal)
    ∧ (prgRamSizes h, chrRamSizes h) = ((8192, 8192), (8192, 0)) := by decide +kernel
/-- L5, L6, L7. -/
theorem test_loader_errors : parse [0x4E, 0x45, 0x53] = .error .formatError
    ∧ parse [0x4E, 0x45, 0x53, 0x1A, 1, 1] = .error .truncatedError
    ∧ parse [0x4E, 0x45, 0x53, 0x1A, 0, 1, 0, 0, 0, 0, 0, 0, 0, 0, 0, 0] = .error .invalidHeaderError := ⟨rfl, rfl, rfl⟩
/-- M12. -/
theorem test_unrom : let s := board .unrom 0x20000 0x2000
    ((cpuWrite { s with mapper := { s.mapper with prgMap := [0, 1, 14, 15] } } 0x8000 0x0A).mapper.prgMap) = [4, 5, 14, 15] := by decide +kernel
/-- M-6: 48 KiB of PRG ROM wraps by the mask 5. -/
theorem test_mmc3_odd_size : (windowBank 0xC000 0x2000 1 6 0, windowBank 0xC000 0x2000 1 4 0) = (4, 4) := by decide +kernel
/-- MMC1 registers with the given shift, count and control. -/
def mmc1With (sh : BitVec 5) (n : Nat) (c : BitVec 5) : Mmc1 :=
  { shift := sh, writesCount := n, control := c, chr0 := 0, chr1 := 0, prg := 0, lastChr := false, snrom := false }
/-- P3. -/
theorem test_mmc1_reset_write :
    (cpuWrite (board (.mmc1 (mmc1With 0x18 2 0x13)) 0x20000 0x2000) 0xA000 0x80).mapper.chip
      = .mmc1 (mmc1With 0 0 0x1F) := by decide +kernel

/-! ## Witnesses: a state and operands that meet the hypotheses of each obligation that has any, at the ends of its ranges -/

/-- A machine whose next step is the instruction of these bytes, under `nmos`. -/
def nmos (bs : List Byte) : State := under .nmos (machine bs)

theorem witness_EncodeDecode : decode [0xA9, 0x80, 0xEA] = .ok (.ldaImm 0x80, [0xEA]) := rfl
theorem witness_OpcodeMap : opcodeLength 0xEA ≤ ([] : List Byte).length + 1
    ∧ opcodeLength 0x8D ≤ ([0x00, 0x02] : List Byte).length + 1 := by decide +kernel
theorem witness_PowerOn : memByte (power State.reset) 0xFFFC = some 0 ∧ memByte (power State.reset) 0xFFFD = some 0 := by decide +kernel

/-- A load: no entry is due, no DMA, no fault. -/
theorem witness_StepRunsDecoded : let s := machine [0xA9, 0x80]
    let u := interruptCheck { s with cycles := 0 }
    s.canStep = true ∧ idles s = false ∧ s.quiet = true
    ∧ (memByte u (u.cpu.pc + BitVec.ofNat 16 0), memByte u (u.cpu.pc + BitVec.ofNat 16 1)) = (some 0xA9, some 0x80) := by decide +kernel
theorem witness_StepRunsDecoded_decode : decode [0xA9, 0x80] = .ok (.ldaImm 0x80, []) := rfl
/-- No DMA and no fault after it; a fault after an undocumented opcode. -/
theorem witness_StepRunsDecoded_after :
    (∃ t, exec (.ldaImm 0x80) (machine [0xA9, 0x80]) = .next t ∧ t.oamDma = none ∧ t.apu.dmc.fetchPending = false)
    ∧ ∃ t, exec (.laxZp 0x10) (machine [0xA7, 0x10]) = .next t ∧ t.cpu.fault ≠ none :=
  ⟨⟨_, rfl, by decide +kernel, by decide +kernel⟩, ⟨_, rfl, by decide +kernel⟩⟩
theorem witness_StepOutcomes : State.reset.canStep = true
    ∧ (ran (machine [0xA7, 0x10])).cpu.fault = some (0xA7, 0x8000)
    ∧ (removeCartridge State.reset).cpu.fault = none ∧ (removeCartridge State.reset).present = false := by decide +kernel
theorem witness_InterruptCheck : State.reset.canStep = true := by decide +kernel
theorem witness_HaltedState :
    (Instr.jam02.mnemonic = .jam ∧ Instr.jamF2.mnemonic = .jam ∧ (nmos [0x02]).params.undocPolicy = .nmos)
    ∧ (∃ t, exec .jam02 (nmos [0x02]) = .next t ∧ (nmos [0x02]).cpu.halted = false ∧ t.cpu.halted = true)
    ∧ ((ran (nmos [0x02])).canStep = true ∧ (ran (nmos [0x02])).cpu.halted = true
      ∧ (ran (nmos [0x02])).pending.reset = false) :=
  ⟨by decide +kernel, ⟨_, rfl, by decide +kernel, by decide +kernel⟩, by decide +kernel⟩
/-- The vectors hold bytes; PPUCTRL bit 7 is clear; PC is not 0x4015; an IRQ bit can stand. -/
theorem witness_InterruptEntries : let s := machine []
    (memByte s 0xFFFA, memByte s 0xFFFB, memByte s 0xFFFE, memByte s 0xFFFF) = (some 0x00, some 0x81, some 0x80, some 0x80)
    ∧ s.ppu.ctrl.getLsbD 7 = false ∧ s.cpu.pc ≠ 0x4015 := by decide +kernel
theorem witness_InterruptEntries_pending : let s := machine []
    let u := { s with pending := { s.pending with irqApu := true, irqDmc := true, irqMapper := true } }
    u.cpu.pc ≠ 0x4015 ∧ u.pending.irqApu = true ∧ u.pending.irqDmc = true ∧ u.pending.irqMapper = true := by decide +kernel
theorem witness_ResetEntry : let t := resetEntry (machine [])
    (memByte t 0xFFFC, memByte t 0xFFFD) = (some 0x00, some 0x80) := by decide +kernel
theorem witness_BreakAndReturn : (memByte (machine []) 0xFFFE, memByte (machine []) 0xFFFF) = (some 0x80, some 0x80) := by decide +kernel
theorem witness_IllegalOpcode :
    ((Instr.laxZp 0x10).undocumented = true ∧ (machine []).params.undocPolicy = .fault)
    ∧ ((Instr.aneImm 0).undocumented = true ∧ (nmos []).params.undocPolicy = .nmos ∧ isUnstable (.aneImm 0) = true)
    ∧ ∃ t, exec (.aneImm 0) (nmos [0x8B, 0x00]) = .next t ∧ t.cpu.fault ≠ (nmos [0x8B, 0x00]).cpu.fault :=
  ⟨by decide +kernel, by decide +kernel, ⟨_, rfl, by decide +kernel⟩⟩
theorem witness_NopPolicy : Instr.jam02.undocumented = true ∧ (Instr.laxZp 0x10).undocumented = true
    ∧ (Instr.shaIzy 0x10).undocumented = true ∧ (under .nop (machine [])).params.undocPolicy = .nop := by decide +kernel
theorem witness_CycleCounts : (Instr.ldaImm 0).undocumented = false
    ∧ ((nmos []).params.undocPolicy = .nmos ∧ (Instr.sloZp 0).mnemonic ≠ .jam ∧ isUnstable (.sloZp 0) = false) := by decide +kernel

/-- The pointers at the end of page 0 (R510, R511). -/
theorem witness_EffectiveAddresses : let s := withX 1 (poke 0 0x02 (poke 0xFF 0x34 (machine [])))
    (0 = ((0xFF : Byte).toNat + s.cpu.x.toNat) % 2 ^ 8)
    ∧ 0x0234 = (sparseRead s.ram (0xFF : Byte).toNat).toNat
        + 256 * (sparseRead s.ram (((0xFF : Byte).toNat + 1) % 2 ^ 8)).toNat := by decide +kernel
theorem witness_OperandRead : memByte (poke 0x10 0x80 (machine [])) (effectiveAddress (.zp 0x10) (machine [])) = some 0x80
    ∧ memByte (machine [0x42]) (effectiveAddress (.abs 0x8000) (machine [0x42])) = some 0x42 := by decide +kernel
theorem witness_LoadResult : ((Instr.ldaIzy 0xFF).source, (Instr.ldaIzy 0xFF).mnemonic) = (some (.mem (.izy 0xFF)), .lda)
    ∧ ((Instr.ldxZpy 0xFF).source, (Instr.ldxZpy 0xFF).mnemonic) = (some (.mem (.zpy 0xFF)), .ldx)
    ∧ ((Instr.ldyImm 0).source, (Instr.ldyImm 0).mnemonic) = (some (.imm 0), .ldy) := by decide +kernel
theorem witness_StoreResult : ((Instr.staAbs 0x4014).addressing, (Instr.staAbs 0x4014).mnemonic) = (some (.abs 0x4014), .sta)
    ∧ ((Instr.stxZpy 0).addressing, (Instr.stxZpy 0).mnemonic) = (some (.zpy 0), .stx)
    ∧ ((Instr.styZpx 0).addressing, (Instr.styZpx 0).mnemonic) = (some (.zpx 0), .sty) := by decide +kernel
theorem witness_PushPull : (Instr.pha = .pha ∧ (0 : Byte) = (machine []).cpu.a)
    ∧ (Instr.php = .php ∧ (0x34 : Byte) =
      (let c := (machine []).cpu
       BitVec.ofBool c.n ++ BitVec.ofBool c.v ++ (0b11#2) ++ BitVec.ofBool c.d ++ BitVec.ofBool c.i ++ BitVec.ofBool c.z
         ++ BitVec.ofBool c.c)) := by decide +kernel
theorem witness_AddSubtract : ((Instr.adcImm 0x80).source, (Instr.adcImm 0x80).mnemonic) = (some (.imm 0x80), .adc)
    ∧ ((Instr.sbcAbx 0xFFFF).source, (Instr.sbcAbx 0xFFFF).mnemonic) = (some (.mem (.abx 0xFFFF)), .sbc) := by decide +kernel
theorem witness_CompareResult : ((Instr.cmpImm 0).source, (Instr.cmpImm 0).mnemonic) = (some (.imm 0), .cmp)
    ∧ ((Instr.cpxImm 0).source, (Instr.cpxImm 0).mnemonic) = (some (.imm 0), .cpx)
    ∧ ((Instr.cpyAbs 0).source, (Instr.cpyAbs 0).mnemonic) = (some (.mem (.abs 0)), .cpy) := by decide +kernel
theorem witness_IncrementMemory : ((Instr.incZp 0).addressing, (Instr.incZp 0).mnemonic) = (some (.zp 0), .inc)
    ∧ ((Instr.decAbx 0).addressing, (Instr.decAbx 0).mnemonic) = (some (.abx 0), .dec) := by decide +kernel
theorem witness_LogicResult : ((Instr.andImm 0).source, (Instr.andImm 0).mnemonic) = (some (.imm 0), .and)
    ∧ ((Instr.oraZp 0).source, (Instr.oraZp 0).mnemonic) = (some (.mem (.zp 0)), .ora)
    ∧ ((Instr.eorIzx 0).source, (Instr.eorIzx 0).mnemonic) = (some (.mem (.izx 0)), .eor)
    ∧ ((Instr.bitAbs 0x2002).source, (Instr.bitAbs 0x2002).mnemonic) = (some (.mem (.abs 0x2002)), .bit) := by decide +kernel
theorem witness_ShiftRotate : ((Instr.aslZp 0).addressing, (Instr.aslZp 0).mnemonic) = (some (.zp 0), .asl)
    ∧ ((Instr.lsrZpx 0).addressing, (Instr.lsrZpx 0).mnemonic) = (some (.zpx 0), .lsr)
    ∧ ((Instr.rolAbs 0).addressing, (Instr.rolAbs 0).mnemonic) = (some (.abs 0), .rol)
    ∧ ((Instr.rorAbx 0).addressing, (Instr.rorAbx 0).mnemonic) = (some (.abx 0), .ror) := by decide +kernel
/-- The pointer at the end of a page (R660) and the JSR whose operand stands in ROM. -/
theorem witness_JumpResult : let s := poke 0x200 0x90 (machine [0x20, 0x00, 0x90])
    (memByte s 0x02FF, memByte s (BitVec.ofNat 16 (256 * ((0x02FF : Word).toNat / 256) + ((0x02FF : Word).toNat + 1) % 256)))
      = (some 0x00, some 0x90)
    ∧ ∃ t, exec (.jsr 0x9000) s = .next t ∧ memByte t (s.cpu.pc + 2) = some 0x90 :=
  ⟨by decide +kernel, ⟨_, rfl, by decide +kernel⟩⟩
theorem witness_UndocReadModifyWrite : (nmos []).params.undocPolicy = .nmos
    ∧ ((Instr.sloIzx 0).addressing, (Instr.sloIzx 0).mnemonic) = (some (.izx 0), .slo)
    ∧ ((Instr.rlaZp 0).addressing, (Instr.rlaZp 0).mnemonic) = (some (.zp 0), .rla)
    ∧ ((Instr.sreAbs 0).addressing, (Instr.sreAbs 0).mnemonic) = (some (.abs 0), .sre)
    ∧ ((Instr.rraIzy 0).addressing, (Instr.rraIzy 0).mnemonic) = (some (.izy 0), .rra)
    ∧ ((Instr.dcpAby 0).addressing, (Instr.dcpAby 0).mnemonic) = (some (.aby 0), .dcp)
    ∧ ((Instr.iscAbx 0).addressing, (Instr.iscAbx 0).mnemonic) = (some (.abx 0), .isc) := by decide +kernel
theorem witness_UndocLoadStore : (nmos []).params.undocPolicy = .nmos
    ∧ ((Instr.saxZpy 0).addressing, (Instr.saxZpy 0).mnemonic) = (some (.zpy 0), .sax)
    ∧ ((Instr.laxIzy 0).source, (Instr.laxIzy 0).mnemonic) = (some (.mem (.izy 0)), .lax)
    ∧ ((Instr.lasAby 0).source, (Instr.lasAby 0).mnemonic) = (some (.mem (.aby 0)), .las) := by decide +kernel
theorem witness_UndocImmediate : (nmos []).params.undocPolicy = .nmos := by decide +kernel
theorem witness_UndocNops : (nmos []).params.undocPolicy = .nmos
    ∧ (Instr.nopAbs 0x2002).mnemonic = .nop ∧ (Instr.nopAbs 0x2002).undocumented = true
    ∧ (Instr.nopAbs 0x2002).source = some (.mem (.abs 0x2002))
    ∧ Instr.nopImp1A.mnemonic = .nop ∧ Instr.nopImp1A.undocumented = true ∧ Instr.nopImp1A.source = none := by decide +kernel

/-- An instruction that does not write, and one that pushes with an address just outside its cell. -/
theorem witness_FrameNoStore :
    (writesMemory .nop = false ∧ pushes .nop = 0 ∧ ∃ t, exec .nop (machine [0xEA]) = .next t)
    ∧ (writesMemory .pha = false ∧ (∃ t, exec .pha (machine [0x48]) = .next t)
      ∧ ∀ j, j < pushes .pha → ¬((0x01FC : Word).toNat < 0x2000
          ∧ (0x01FC : Word).toNat % 0x800 = stackCell ((machine [0x48]).cpu.s - BitVec.ofNat 8 j))) :=
  ⟨⟨by decide, by decide, ⟨_, rfl⟩⟩, by decide, ⟨_, rfl⟩, by decide +kernel⟩
/-- A store next to the byte compared. -/
theorem witness_FrameStore : let s := machine [0x8D, 0x00, 0x02]
    writesMemory (.staAbs 0x0200) = true ∧ (Instr.staAbs 0x0200).addressing = some (.abs 0x0200)
    ∧ effectiveAddress (.abs 0x0200) s = 0x0200
    ∧ (∃ t, exec (.staAbs 0x0200) s = .next t ∧ SameBanking s.mapper t.mapper)
    ∧ ¬((0x0200 : Word).toNat < 0x2000 ∧ (0x0201 : Word).toNat < 0x2000
        ∧ (0x0201 : Word).toNat % 0x800 = (0x0200 : Word).toNat % 0x800)
    ∧ ¬(0x6000 ≤ (0x0200 : Word).toNat ∧ (0x0200 : Word).toNat < 0x8000 ∧ 0x6000 ≤ (0x0201 : Word).toNat
        ∧ (0x0201 : Word).toNat < 0x8000
        ∧ prgRamOffset s.cart s.mapper (0x0201 : Word).toNat = prgRamOffset s.cart s.mapper (0x0200 : Word).toNat) :=
  ⟨by decide, by decide, by decide, ⟨_, rfl, ⟨by decide +kernel, by decide +kernel, by decide +kernel, by decide +kernel,
    by decide +kernel, by decide +kernel, fun a => congrArg (Chip.registerAt · a) (by decide +kernel)⟩⟩, by decide, by decide +kernel⟩
/-- NOP is in none of the lists, so it meets every clause. -/
theorem witness_RegisterFrame : (∃ t, exec .nop (machine [0xEA]) = .next t) ∧ Instr.nop.mnemonic = .nop :=
  ⟨⟨_, rfl⟩, rfl⟩
theorem witness_ReadAfterWrite : let s := machine []
    ((0x0000 : Word).toNat < 0x2000 ∧ (0x1FFF : Word).toNat < 0x2000)
    ∧ (0x6000 ≤ (0x6000 : Word).toNat ∧ (0x6000 : Word).toNat < 0x8000 ∧ 0x6000 ≤ (0x7FFF : Word).toNat
      ∧ (0x7FFF : Word).toNat < 0x8000 ∧ s.mapper.prgRamOn = true ∧ 0 < s.cart.prgRamSize) := by decide +kernel
/-- The register reads, at the ends of the mirrored range; 0x1FFF has no effect. -/
theorem witness_ReadSideEffects :
    (0x2000 ≤ (0x2002 : Word).toNat ∧ (0x3FFA : Word).toNat < 0x4000 ∧ (0x2002 : Word).toNat % 8 = 2
      ∧ (0x3FFA : Word).toNat % 8 = 2)
    ∧ (0x2000 ≤ (0x2007 : Word).toNat ∧ (0x3FFF : Word).toNat < 0x4000 ∧ (0x2007 : Word).toNat % 8 = 7
      ∧ (0x3FFF : Word).toNat % 8 = 7 ∧ ((machine []).ppu.v.setWidth 14).toNat < 0x3F00)
    ∧ (0x4015 : Word).toNat = 0x4015 ∧ (0x4016 : Word).toNat = 0x4016 ∧ (0x4017 : Word).toNat = 0x4017
    ∧ ¬(0x2000 ≤ (0x1FFF : Word).toNat) := by decide +kernel

/-- Every step from the reset state exists, so each invariant's premise is met there (`ResetMeetsInvariants`). -/
theorem witness_invariants : (∃ t, step State.reset = .next t) ∧ State.reset.memoryWf = true :=
  ⟨⟨_, rfl⟩, by decide +kernel⟩
theorem witness_StepKeepsBeam : State.reset.BeamInRange :=
  ⟨by decide, by decide, by decide, by decide, by decide⟩
theorem witness_StepKeepsBanks : State.reset.BanksInRange :=
  ⟨by decide, by decide, by decide, by decide, by decide, fun r h => (by cases h), fun r h => (by cases h)⟩
theorem witness_StepKeepsDmc : State.reset.DmcInRange :=
  ⟨by decide, by decide, by decide, by decide, by decide⟩
theorem witness_StepKeepsSequencer : State.reset.SequencerInRange := ⟨by decide, by decide⟩

/-- One image per clause: no signature, 15 bytes, no PRG, one byte short, just long enough. -/
def shortHeader : List Byte := [0x4E, 0x45, 0x53, 0x1A, 0, 0, 0, 0, 0, 0, 0, 0, 0, 0, 0]
def fullHeader : List Byte := [0x4E, 0x45, 0x53, 0x1A, 1, 1, 0, 0, 0, 0, 0, 0, 0, 0, 0, 0]
theorem witness_LoaderParse :
    ¬(([0x4E, 0x45, 0x53, 0x1B] : List Byte).take 4 = [0x4E, 0x45, 0x53, 0x1A])
    ∧ (shortHeader.take 4 = [0x4E, 0x45, 0x53, 0x1A] ∧ shortHeader.length < 16)
    ∧ (16 ≤ (shortHeader ++ [0]).length ∧ (headerOf (shortHeader ++ [0])).prgUnits = 0)
    ∧ ((headerOf fullHeader).prgUnits = 1 ∧ (headerOf fullHeader).chrUnits = 1) := by decide +kernel
theorem witness_LoaderParse_length :
    fullHeader.length + (List.replicate 0x5FFF (0 : Byte)).length < 16 + 1 * 0x4000 + 1 * 0x2000
    ∧ 16 + 1 * 0x4000 + 1 * 0x2000 ≤ fullHeader.length + (List.replicate 0x6000 (0 : Byte)).length := by
  rw [List.length_replicate, List.length_replicate]; decide

/-- The smallest board and a larger one, for each chip's clause, at both ends of the register range. -/
theorem witness_BankRegisters : ∀ c ∈ [Chip.nrom, .nina001, .unrom, .cnrom, .aorom, .bnrom, .colorDreams],
    (board c 0x8000 0x2000).cart.prgRom.size = 2 ^ 0 * 0x8000 ∧ chrSize (board c 0x8000 0x2000).cart = 2 ^ 0 * 0x2000
    ∧ (board c 0x20000 0x8000).cart.prgRom.size = 2 ^ 2 * 0x8000 ∧ chrSize (board c 0x20000 0x8000).cart = 2 ^ 2 * 0x2000
    ∧ (board c 0x20000 0x8000).mapper.prgMap.length = 4 ∧ (board c 0x20000 0x8000).mapper.chrMap.length = 8
    ∧ (board c 0x20000 0x8000).mapper.chip = c ∧ (board c 0x20000 0x8000).params.colorDreamsMirroring = none
    ∧ 0x8000 ≤ (0x8000 : Word).toNat ∧ 0x8000 ≤ (0xFFFF : Word).toNat := by decide +kernel
/-- A ColorDreams board whose mirroring bit is the lowest or the highest; NINA-001's registers, both ends of the range
below 0x8000. -/
theorem witness_BankRegisters_extras : let s := board .colorDreams 0x20000 0x8000
    ({ s with params := { s.params with colorDreamsMirroring := some 0 } }).params.colorDreamsMirroring = some 0
    ∧ ({ s with params := { s.params with colorDreamsMirroring := some 7 } }).params.colorDreamsMirroring = some 7
    ∧ (board .nina001 0x10000 0x10000).mapper.chip = .nina001 ∧ (board .unrom 0x10000 0x2000).mapper.chip ≠ .nina001
    ∧ (board .nina001 0x10000 0x10000).mapper.prgMap.length = 4 ∧ (board .nina001 0x10000 0x10000).mapper.chrMap.length = 8
    ∧ [(0x6000 : Word), 0x7FFC, 0x7FFD, 0x7FFE, 0x7FFF].all (fun a => decide (0x6000 ≤ a.toNat ∧ a.toNat < 0x8000)) = true := by
  decide +kernel
theorem witness_Mmc1Serial : let r := mmc1With 0x1F 0 0x0C
    (board (.mmc1 r) 0x20000 0x2000).mapper.chip = .mmc1 r ∧ r.writesCount = 0
    ∧ [(0x8000 : Word), 0xFFFF, 0x8000, 0xFFFF, 0xE000].all (fun a => decide (0x8000 ≤ a.toNat)) = true
    ∧ [(0x00 : Byte), 0x01, 0x7F, 0x7E, 0x01].all (fun v => !v.getLsbD 7) = true ∧ (0x80 : Byte).getLsbD 7 = true := by decide +kernel
/-- A write that completes a sequence and the one before it; a board for the banking, SNROM and not. -/
theorem witness_Mmc1Serial_banking : ∀ snrom : Bool,
    let r := { mmc1With 0x1F 0 0x0C with writesCount := 4, snrom := snrom }
    let q := { r with writesCount := 3 }
    (board (.mmc1 r) 0x20000 0x2000).mapper.chip = .mmc1 r ∧ r.writesCount = 4 ∧ r.snrom = snrom
    ∧ (board (.mmc1 q) 0x20000 0x2000).mapper.chip = .mmc1 q ∧ q.writesCount ≠ 4
    ∧ (board (.mmc1 r) 0x20000 0x2000).mapper.prgMap.length = 4
    ∧ (board (.mmc1 r) 0x20000 0x2000).mapper.chrMap.length = 8 := by decide +kernel
theorem witness_Mmc3Counter : let r := { mmc3Reset with irqEnabled := true }
    (board (.mmc3 r) 0x20000 0x2000).mapper.chip = .mmc3 r ∧ r.irqEnabled = true ∧ 2 ≤ (0x02 : Byte).toNat
    ∧ (0 : Byte) = 0 ∧ 0x8000 ≤ (0xE000 : Word).toNat ∧ 0x8000 ≤ (0xFFFF : Word).toNat
    ∧ 0x8000 ≤ (0x8000 : Word).toNat ∧ (board (.mmc3 r) 0x20000 0x2000).mapper.prgMap.length = 4
    ∧ (board (.mmc3 r) 0x20000 0x2000).mapper.chrMap.length = 8 := by decide +kernel

/-- A board with CHR RAM. -/
def chrRamBoard : State := { State.reset with cart := { blankCartridge with chrRom := none, chrRamSize := 0x2000 } }
/-- Both ends of each part of PPU memory, and addresses in two parts. -/
theorem witness_PpuMemoryMap :
    (0x3F00 ≤ (0x3F00 : BitVec 14).toNat ∧ 0x3F00 ≤ (0x3FFF : BitVec 14).toNat)
    ∧ (0x2000 ≤ (0x2000 : BitVec 14).toNat ∧ (0x3EFF : BitVec 14).toNat < 0x3F00)
    ∧ ((0x1FFF : BitVec 14).toNat < 0x2000 ∧ chrRamBoard.cart.chrRom = none
      ∧ chrOffset chrRamBoard.mapper (0x1FFF : BitVec 14).toNat < chrRamBoard.cart.chrRamSize)
    ∧ State.reset.cart.chrRom ≠ none
    ∧ ((0x1FFF : BitVec 14).toNat < 0x2000 ↔ ¬(0x2000 : BitVec 14).toNat < 0x2000)
    ∧ ((0x3EFF : BitVec 14).toNat < 0x3F00 ↔ ¬(0x3F00 : BitVec 14).toNat < 0x3F00) := by decide +kernel
/-- Each port at both ends of the mirrored range; both values of w; rendering off; v at the top of its clause. -/
theorem witness_PpuPorts : let s := withPpu (fun p => { p with v := 0x3EDF }) State.reset
    let t := withPpu (fun p => { p with w := true }) State.reset
    (0x2000 ≤ (0x2005 : Word).toNat ∧ (0x3FFF : Word).toNat < 0x4000 ∧ (0x2005 : Word).toNat % 8 = 5
      ∧ (0x3FFD : Word).toNat % 8 = 5 ∧ (0x2006 : Word).toNat % 8 = 6 ∧ (0x2007 : Word).toNat % 8 = 7
      ∧ (0x3FFF : Word).toNat % 8 = 7)
    ∧ s.ppu.w = false ∧ t.ppu.w = true ∧ renderingOn s.ppu = false ∧ s.ppu.v.toNat % 0x4000 < 0x3EE0 := by decide +kernel
/-- v on both sides of the palette's start, with rendering off and on at both ends of the scrolling lines. -/
theorem witness_PpuPorts_data :
    let below := withPpu (fun p => { p with v := 0x7EFF }) State.reset
    let at_ := withPpu (fun p => { p with v := 0x3F00 }) State.reset
    let on := fun line => withPpu (fun p => { p with mask := 0x08, scanline := line }) State.reset
    (below.ppu.v.setWidth 14 : BitVec 14).toNat < 0x3F00 ∧ 0x3F00 ≤ (at_.ppu.v.setWidth 14 : BitVec 14).toNat
    ∧ ((on (-1)).ppu.mask.getLsbD 3 = true ∧ (on (-1)).ppu.scanline = -1 ∧ (on 239).ppu.scanline = 239)
    ∧ ¬(on 240).ppu.scanline ≤ 239 := by decide +kernel
theorem witness_PpuRegisters : 0x2000 ≤ (0x2000 : Word).toNat ∧ (0x3FFC : Word).toNat < 0x4000
    ∧ ((0x2000 : Word).toNat % 8, (0x2001 : Word).toNat % 8, (0x2002 : Word).toNat % 8, (0x2003 : Word).toNat % 8,
      (0x3FFC : Word).toNat % 8) = (0, 1, 2, 3, 4) := by decide +kernel

/-- A beam position of the reset machine. -/
def beamAt (line : Int) (dot : Nat) : State := withPpu (fun p => { p with scanline := line, dot := dot }) State.reset
theorem witness_FrameTiming : (beamAt 260 340).BeamInRange ∧ (beamAt 241 1).BeamInRange ∧ (beamAt (-1) 1).BeamInRange
    ∧ (beamAt (-1) 339).BeamInRange ∧ (machine []).pending.nmi = false :=
  ⟨⟨by decide, by decide, by decide, by decide, by decide⟩, ⟨by decide, by decide, by decide, by decide, by decide⟩,
   ⟨by decide, by decide, by decide, by decide, by decide⟩, ⟨by decide, by decide, by decide, by decide, by decide⟩,
   by decide⟩
/-- The first and the last visible line, and the pre-render line. -/
theorem witness_SpriteEvaluation : let on := fun l => withPpu (fun p => { p with mask := 0x10 }) (beamAt l 257)
    ((on 0).ppu.scanline = ((0 : Nat) : Int) ∧ (on 239).ppu.scanline = ((239 : Nat) : Int) ∧ (on 0).ppu.dot = 257
      ∧ renderingOn (on 239).ppu = true ∧ (on 0).params.spriteOverflowBug = false)
    ∧ (beamAt (-1) 257).ppu.scanline = -1 ∧ (beamAt (-1) 257).ppu.dot = 257 := by decide +kernel
/-- With the overflow bug: OAM of zeros, whose 64 entries are all in range of line 0, the eighth being entry 7, and none of line 239. -/
theorem witness_SpriteEvaluation_bug :
    let s := fun l => { withPpu (fun p => { p with mask := 0x10 }) (beamAt l 257) with
      params := { defaultParams with spriteOverflowBug := true } }
    let found := fun y : Nat => (List.range 64).filter (fun n =>
      decide (0 ≤ (y : Int) - (sparseRead (s y).ppu.oam (4 * n)).toNat) && decide ((y : Int) - (sparseRead (s y).ppu.oam (4 * n)).toNat < 8))
    (s 0).params.spriteOverflowBug = true ∧ (s 0).ppu.ctrl.getLsbD 5 = false ∧ (found 0)[7]? = some 7 ∧ (found 239).length < 8 := by
  decide +kernel
/-- Eight units with their first and last row on line 239, slots 0 and 7 at their two fetches. -/
theorem witness_SpriteEvaluation_fetch :
    let u : Byte → SpriteUnit := fun y => { y := y, tile := 0xFF, attr := 0xC0, x := 0, lo := 0, hi := 0 }
    let s := fun d y => withPpu (fun p => { p with mask := 0x10, spr := List.replicate 8 (u y) }) (beamAt 239 d)
    (s 261 239).ppu.scanline = ((239 : Nat) : Int) ∧ renderingOn (s 261 239).ppu = true ∧ (s 261 239).ppu.spr[0]? = some (u 239)
    ∧ (s 319 232).ppu.spr[7]? = some (u 232) ∧ (s 261 239).ppu.dot = 261 + 8 * 0 ∧ (s 319 232).ppu.dot = 263 + 8 * 7
    ∧ (u 239).y.toNat ≤ 239 ∧ 239 - (u 239).y.toNat < 8 ∧ 239 - (u 232).y.toNat < 8 := by decide +kernel
/-- A PAL phase at each end of its range, and a mapper with no counter. -/
theorem witness_FrameTiming_tick : State.reset.palPhase < 5 ∧ ({ State.reset with palPhase := 4 }).palPhase < 5
    ∧ ∀ r, State.reset.mapper.chip ≠ .mmc3 r := ⟨by decide, by decide, fun _ h => by cases h⟩
/-- The ends of the fetching lines. -/
theorem witness_PixelOutput_shifters : -1 ≤ (beamAt (-1) 337).ppu.scanline ∧ (beamAt (-1) 337).ppu.scanline < 240
    ∧ -1 ≤ (beamAt 239 257).ppu.scanline ∧ (beamAt 239 257).ppu.scanline < 240 := by decide
/-- The first and the last pixel, rendering off; and a dot that outputs none. -/
theorem witness_PixelOutput :
    ((beamAt 0 1).ppu.scanline = ((0 : Nat) : Int) ∧ (beamAt 0 1).ppu.dot = 0 + 1
      ∧ (beamAt 239 256).ppu.scanline = ((239 : Nat) : Int) ∧ (beamAt 239 256).ppu.dot = 255 + 1
      ∧ renderingOn (beamAt 0 1).ppu = false)
    ∧ ¬(0 ≤ (beamAt 239 257).ppu.scanline ∧ (beamAt 239 257).ppu.scanline < 240 ∧ 1 ≤ (beamAt 239 257).ppu.dot
        ∧ (beamAt 239 257).ppu.dot ≤ 256) := by decide +kernel
theorem witness_PixelOutput_beam : (beamAt 239 257).BeamInRange :=
  ⟨by decide, by decide, by decide, by decide, by decide⟩
/-- No request; a request of RAM's page 2, whose first and last byte are memory, with rendering off. -/
theorem witness_OamDma : (machine []).oamDma = none
    ∧ (let s := { machine [] with oamDma := some 0x02 }
       s.oamDma = some 0x02 ∧ renderingOn s.ppu = false ∧ memByte s (wordOf 0x00 0x02) = some 0
       ∧ memByte s (wordOf 0xFF 0x02) = some 0) := by decide +kernel
/-- A DMC that wants the byte at 0xFFFF. -/
def dmcState : State :=
  let s := machine []
  { s with apu := { s.apu with dmc := { s.apu.dmc with bytesRemaining := 1, currentAddress := 0xFFFF, fetchPending := true } } }
theorem witness_DmcFetch : dmcState.apu.dmc.fetchPending = true
    ∧ memByte dmcState dmcState.apu.dmc.currentAddress = some 0x80
    ∧ (tick dmcState).apu.dmc.buffer = none ∧ (tick dmcState).apu.dmc.bytesRemaining ≠ 0 := by decide +kernel
/-- R843, R1042, R15: STA 0x4015 with A = 0 stops the sample whose next byte is requested; the fetch is performed all the same. -/
theorem test_dmc_stop_keeps_request : let t := cpuWrite dmcState 0x4015 0x00
    (t.apu.dmc.fetchPending, t.apu.dmc.bytesRemaining) = (true, 0)
    ∧ (let d := dmcTake t.apu.dmc 0x80; (d.buffer, d.currentAddress, d.bytesRemaining) = (some 0x80, 0x8000, 4095)) := by
  decide +kernel
theorem witness_FrameInterrupt : State.reset.apu.cycle = 0 ∧ State.reset.apu.seqRestart = false := by decide +kernel
/-- Both ends of each channel's registers. -/
theorem witness_FrameInterrupt_registers :
    [(0x4000 : Word), 0x4003].all (fun a => decide (0x4000 ≤ a.toNat ∧ a.toNat < 0x4004)) = true
    ∧ [(0x4004 : Word), 0x4007].all (fun a => decide (0x4004 ≤ a.toNat ∧ a.toNat < 0x4008)) = true
    ∧ [(0x4008 : Word), 0x4009, 0x400A, 0x400B, 0x400C, 0x400D, 0x400E, 0x400F, 0x4010, 0x4011, 0x4012, 0x4013, 0x4015, 0x4017].map
      BitVec.toNat = [0x4008, 0x4009, 0x400A, 0x400B, 0x400C, 0x400D, 0x400E, 0x400F, 0x4010, 0x4011, 0x4012, 0x4013,
        0x4015, 0x4017] := by
  decide +kernel

end Sys2Proof.Tests
end

namespace Sys2Proof.Machine

/-! ## Reads of the ROM window and of vectors -/

/-- In the ROM window a read is the mapper's (20_memory.md R204). -/
theorem cpuRead_rom (s : State) {a : Word} (h : 0x8000 ≤ a.toNat) : cpuRead s a = prgRomRead s a.toNat := by
  have h1 : ¬ a.toNat < 0x2000 := by omega
  have h2 : ¬ a.toNat < 0x4000 := by omega
  have h3 : a.toNat ≠ 0x4015 := by omega
  have h4 : a.toNat ≠ 0x4016 := by omega
  have h5 : a.toNat ≠ 0x4017 := by omega
  have h6 : ¬ a.toNat < 0x6000 := by omega
  have h7 : ¬ a.toNat < 0x8000 := by omega
  simp only [cpuRead, h1, h2, h3, h4, h5, h6, h7, ↓reduceIte]

/-- A read in the ROM window changes nothing but the count of the draws. -/
theorem cpuRead_rom_snd (s : State) {a : Word} (h : 0x8000 ≤ a.toNat) :
    (cpuRead s a).2 = { s with draws := (cpuRead s a).2.draws } := by
  rw [cpuRead_rom s h, prgRomRead]
  split <;> rfl

/-- The byte read where memory stands is memory's. -/
theorem cpuRead_fst {s : State} {a : Word} {b : Byte} (h : memByte s a = some b) : (cpuRead s a).1 = b := by
  rw [cpuRead_memByte h]

/-! ## `power()` -/

/-- The part of a memory below an index. -/
theorem sparseLookup_keepBelow {w : Nat} (n : Nat) (m : Sparse w) (k : Nat) :
    sparseLookup (keepBelow n m) k = if k < n then sparseLookup m k else none := by
  unfold keepBelow
  induction m with
  | nil => simp [sparseLookup]
  | cons e m ih =>
    obtain ⟨j, v⟩ := e
    rcases eq_or_ne k j with rfl | hk
    · by_cases hj : k < n <;> simp [sparseLookup, hj, ih]
    · by_cases hj : j < n <;> simp [sparseLookup, hj, hk, ih]

theorem sparseRead_keepBelow {w : Nat} (n : Nat) (m : Sparse w) (k : Nat) :
    sparseRead (keepBelow n m) k = if k < n then sparseRead m k else 0 := by
  unfold sparseRead
  rw [sparseLookup_keepBelow]
  split <;> rfl

/-- The two vector reads of `power()` change nothing but the count of the draws (70_reset_and_hazards.md R1100). -/
theorem power_eq (s : State) : power s = { powerDevices s with
    cpu := { powerCpu with s := 0xFD, i := true, pc := (power s).cpu.pc }
    draws := (power s).draws } := by
  have h1 := cpuRead_rom_snd (powerDevices s) (a := 0xFFFC) (by decide)
  have h2 := cpuRead_rom_snd (cpuRead (powerDevices s) 0xFFFC).2 (a := 0xFFFD) (by decide)
  unfold power
  simp only
  rw [h2, h1]
  rfl

theorem power_same (s : State) : SameMemory (powerDevices s) (power s) :=
  ((cpuRead_same _ 0xFFFC).trans (cpuRead_same _ 0xFFFD)).setCpu _

/-- PC after `power()` is the word at 0xFFFC, where memory stands there. -/
theorem power_pc {s : State} {l h : Byte} (hl : memByte (power s) 0xFFFC = some l)
    (hh : memByte (power s) 0xFFFD = some h) : (power s).cpu.pc = wordOf l h := by
  rw [(power_same s).memByte] at hl hh
  rw [← (cpuRead_same (powerDevices s) 0xFFFC).memByte] at hh
  show wordOf (cpuRead _ 0xFFFC).1 (cpuRead _ 0xFFFD).1 = wordOf l h
  rw [cpuRead_fst hl, cpuRead_fst hh]

end Sys2Proof.Machine

namespace Sys2Proof.Certificates

open Machine

/-- Settles O5: `power()` leaves what `powerDevices` sets, but for the RESET entry's registers and the draws (`power_eq`). -/
theorem powerOn : Obligations.PowerOn := by
  intro s p
  have hp : p = _ := power_eq s
  have board : SameBoard (powerDevices s) p := (power_same s).board
  have hcpu : p.cpu = { powerCpu with s := 0xFD, i := true, pc := p.cpu.pc } := congrArg State.cpu hp
  have hpack : packP true p.cpu = 0x34 := by
    rw [hcpu]
    show packP true { powerCpu with i := true } = 0x34
    decide
  have hram : p.ram = [] := congrArg State.ram hp
  have hprg : p.prgRam = keepBelow s.cart.prgRamSizeBattery s.prgRam := congrArg State.prgRam hp
  have hchr : p.chrRam = keepBelow s.cart.chrRamSizeBattery s.chrRam := congrArg State.chrRam hp
  refine ⟨hcpu, fun l h => power_pc, hpack, congrArg State.pending hp, fun k => ?_, fun k => ?_, fun k => ?_,
    congrArg State.mapper hp,
    ⟨board.cart, board.params, board.present, board.regionOverride⟩,
    congrArg State.ppu hp, congrArg State.apu hp, congrArg State.palPhase hp, congrArg State.strobe hp⟩
  · rw [hram]; rfl
  · rw [hprg, sparseRead_keepBelow]
  · rw [hchr, sparseRead_keepBelow]

end Sys2Proof.Certificates

namespace Sys2Proof.Machine

/-! ## What an instruction does to the registers -/

/-- The registers and flags alone: PC, `halted` and `fault` masked out. -/
def Cpu.registers (c : Cpu) : Cpu := { c with pc := 0, halted := false, fault := none }

theorem eq_of_registers_eq {c d : Cpu} (h : c.registers = d.registers) : c.a = d.a ∧ c.x = d.x ∧ c.y = d.y ∧ c.s = d.s
    ∧ c.c = d.c ∧ c.v = d.v ∧ c.d = d.d ∧ c.i = d.i ∧ c.z = d.z ∧ c.n = d.n := by
  simp only [Cpu.registers, Cpu.mk.injEq] at h
  obtain ⟨ha, hx, hy, hs, -, hn, hv, hd, hi, hz, hc, -⟩ := h
  exact ⟨ha, hx, hy, hs, hc, hv, hd, hi, hz, hn⟩

/-- A shift's registers: it shifts A in its accumulator form, and else the byte of memory. -/
def shiftEffect (acc : Bool) (f : Bool → Byte → Byte × Bool) (c : Cpu) (m : Byte) : Cpu :=
  let r := shiftFlags f c (if acc then c.a else m)
  { r.2 with a := if acc then r.1 else c.a }

/-- An instruction's registers and flags, by its mnemonic, from those before it and the byte it reads or pulls. `acc` marks the
accumulator form of a shift; the stack pointer counts the pushes and pulls. -/
def registerEffect (acc : Bool) : Mnemonic → Cpu → Byte → Cpu
  | .lda => loadA
  | .ldx => loadX
  | .ldy => loadY
  | .tax => fun c _ => loadX c c.a
  | .tay => fun c _ => loadY c c.a
  | .txa => fun c _ => loadA c c.x
  | .tya => fun c _ => loadA c c.y
  | .tsx => fun c _ => loadX c c.s
  | .txs => fun c _ => { c with s := c.x }
  | .pha | .php => fun c _ => { c with s := c.s - 1 }
  | .pla => fun c m => loadA { c with s := c.s + 1 } m
  | .plp => fun c m => unpackP { c with s := c.s + 1 } m
  | .adc => addC
  | .sbc | .usbc => subC
  | .cmp => fun c m => compare c c.a m
  | .cpx => fun c m => compare c c.x m
  | .cpy => fun c m => compare c c.y m
  | .inc => fun c m => (incByte c m).2
  | .inx => fun c _ => loadX c (c.x + 1)
  | .iny => fun c _ => loadY c (c.y + 1)
  | .dec => fun c m => (decByte c m).2
  | .dex => fun c _ => loadX c (c.x - 1)
  | .dey => fun c _ => loadY c (c.y - 1)
  | .and => andA
  | .ora => oraA
  | .eor => eorA
  | .bit => bitFlags
  | .asl => shiftEffect acc aslByte
  | .lsr => shiftEffect acc lsrByte
  | .rol => shiftEffect acc rolByte
  | .ror => shiftEffect acc rorByte
  | .jsr => fun c _ => { c with s := c.s - 2 }
  | .rts => fun c _ => { c with s := c.s + 2 }
  | .brk => fun c _ => { c with s := c.s - 3, i := true }
  | .rti => fun c m => unpackP { c with s := c.s + 3 } m
  | .clc => fun c _ => { c with c := false }
  | .sec => fun c _ => { c with c := true }
  | .cli => fun c _ => { c with i := false }
  | .sei => fun c _ => { c with i := true }
  | .cld => fun c _ => { c with d := false }
  | .sed => fun c _ => { c with d := true }
  | .clv => fun c _ => { c with v := false }
  | .slo => fun c m => (slo c m).2
  | .rla => fun c m => (rla c m).2
  | .sre => fun c m => (sre c m).2
  | .rra => fun c m => (rra c m).2
  | .dcp => fun c m => (dcp c m).2
  | .isc => fun c m => (isc c m).2
  | .lax => lax
  | .las => las
  | .anc => anc
  | .alr => alr
  | .arr => arr
  | .axs => axs
  | _ => fun c _ => c

/-- The registers of t are what `e` makes of those of s (PC aside) with some byte, or still those of s, as where an undocumented
opcode is not executed (47_undocumented.md R711, R712). -/
def RegistersBy (e : Cpu → Byte → Cpu) (s t : State) : Prop :=
  t.cpu.registers = s.cpu.registers ∨ ∃ pc m, t.cpu.registers = (e { s.cpu with pc := pc } m).registers

/-! ### The shared shapes of instructions -/

theorem readOp_registersBy (f : Cpu → Byte → Cpu) (src : Source) (s : State) : RegistersBy f s (readOp f src s) :=
  .inr ⟨_, (readOperand src s).1, by rw [readOp, State.setCpu_cpu, readOperand_cpu]⟩

theorem storeOp_registersBy (f : Cpu → Byte) (ea : Addressing) (s : State) :
    RegistersBy (fun c _ => c) s (storeOp f ea s) :=
  .inl (by rw [storeOp, cycleWrite_cpu, addressOf_cpu]; rfl)

theorem rmwOp_registersBy (f : Cpu → Byte → Byte × Cpu) (ea : Addressing) (s : State) :
    RegistersBy (fun c m => (f c m).2) s (rmwOp f ea s) :=
  .inr ⟨_, _, by rw [rmwOp, cycleWrite_cpu, State.setCpu_cpu, dummyWrite_cpu, cycleRead_cpu, addressOf_cpu]⟩

theorem impliedOp_registersBy (f : Cpu → Cpu) (s : State) : RegistersBy (fun c _ => f c) s (impliedOp f s) :=
  .inr ⟨_, 0, by rw [impliedOp, State.setCpu_cpu, dummyRead_cpu, fetch_cpu]⟩

theorem pushOp_registersBy (f : Cpu → Byte) (s : State) :
    RegistersBy (fun c _ => { c with s := c.s - 1 }) s (pushOp f s) :=
  .inr ⟨_, 0, by rw [pushOp, push_cpu, dummyRead_cpu, fetch_cpu]⟩

theorem pullOp_registersBy (f : Cpu → Byte → Cpu) (s : State) :
    RegistersBy (fun c m => f { c with s := c.s + 1 } m) s (pullOp f s) :=
  .inr ⟨_, _, by rw [pullOp, State.setCpu_cpu, pull_cpu, dummyRead_cpu, dummyRead_cpu, fetch_cpu]⟩

theorem branch_registersBy (cond : Cpu → Bool) (off : Byte) (s : State) :
    RegistersBy (fun c _ => c) s (branch cond off s) := by
  left
  unfold branch
  simp only [fetchN_cpu]
  split
  · split <;> simp [fetchN_cpu] <;> rfl
  · rw [fetchN_cpu]; rfl

theorem jumpTo_registersBy (a : Word) (s : State) : RegistersBy (fun c _ => c) s (jumpTo a s) :=
  .inl (by rw [jumpTo, State.setPc_cpu, fetchN_cpu]; rfl)

theorem jumpIndirect_registersBy (a : Word) (s : State) : RegistersBy (fun c _ => c) s (jumpIndirect a s) :=
  .inl (by rw [jumpIndirect, State.setPc_cpu, cycleRead_cpu, cycleRead_cpu, fetchN_cpu]; rfl)

theorem jumpSubroutine_registersBy (a : Word) (s : State) :
    RegistersBy (fun c _ => { c with s := c.s - 2 }) s (jumpSubroutine a s) :=
  .inr ⟨0, 0, by rw [jumpSubroutine, State.setPc_cpu, cycleRead_cpu, pushPc_cpu, dummyRead_cpu, fetchN_cpu]; rfl⟩

theorem returnSubroutine_registersBy (s : State) :
    RegistersBy (fun c _ => { c with s := c.s + 2 }) s (returnSubroutine s) := by
  have hs : s.cpu.s + 1 + 1 = s.cpu.s + 2 := BitVec.add_assoc ..
  refine .inr ⟨0, 0, ?_⟩
  rw [returnSubroutine, State.setPc_cpu, dummyRead_cpu, pull_cpu, pull_cpu, dummyRead_cpu, dummyRead_cpu, fetch_cpu]
  simp only [hs]
  rfl

theorem loadVector_cpu (s : State) (v : Word) :
    (loadVector s v).cpu = { s.cpu with pc := (loadVector s v).cpu.pc } := by
  rw [loadVector, State.setPc_cpu, cycleRead_cpu, cycleRead_cpu]

theorem enter_cpu (b : Bool) (v : Word) (s : State) :
    (enter b v s).cpu = { s.cpu with s := s.cpu.s - 3, i := true, pc := (enter b v s).cpu.pc } := by
  have hs : s.cpu.s - 2 - 1 = s.cpu.s - 3 := BitVec.sub_sub ..
  rw [enter, loadVector_cpu, State.setCpu_cpu, push_cpu, pushPc_cpu]
  simp only [hs]

theorem returnFromInterrupt_cpu (s : State) : (returnFromInterrupt s).cpu =
    { unpackP s.cpu (pull s).1 with s := s.cpu.s + 3, pc := (returnFromInterrupt s).cpu.pc } := by
  have hs : s.cpu.s + 1 + 1 + 1 = s.cpu.s + 3 := by rw [BitVec.add_assoc, BitVec.add_assoc]; rfl
  rw [returnFromInterrupt, State.setPc_cpu, pull_cpu, pull_cpu, State.setCpu_cpu, pull_cpu]
  simp only [unpackP_s, hs]
  rfl

theorem softwareInterrupt_registersBy (s : State) :
    RegistersBy (fun c _ => { c with s := c.s - 3, i := true }) s (softwareInterrupt s) :=
  .inr ⟨0, 0, by rw [softwareInterrupt, enter_cpu, fetchN_cpu]; rfl⟩

theorem returnOp_registersBy (s : State) :
    RegistersBy (fun c m => unpackP { c with s := c.s + 3 } m) s (returnOp s) :=
  .inr ⟨0, _, by rw [returnOp, returnFromInterrupt_cpu, dummyRead_cpu, dummyRead_cpu, fetch_cpu]; rfl⟩

/-! ### Undocumented opcodes -/

theorem raiseIllegal_registers (op : Byte) (s : State) : (raiseIllegal op s).cpu.registers = s.cpu.registers := by
  rw [raiseIllegal, State.setCpu_cpu, cycleRead_cpu]; rfl

theorem skipOp_registers (bytes cycles : Nat) (s : State) : (skipOp bytes cycles s).cpu.registers = s.cpu.registers := by
  rw [skipOp, ticks_cpu, fetchN_cpu]; rfl

theorem undocumented_registersBy {e : Cpu → Byte → Cpu} {nmos : State → State} {s : State} (op : Byte)
    (bytes cycles : Nat) (h : RegistersBy e s (nmos s)) : RegistersBy e s (undocumented op bytes cycles nmos s) := by
  unfold undocumented
  split
  · exact .inl (raiseIllegal_registers op s)
  · exact .inl (skipOp_registers bytes cycles s)
  · exact h

theorem undocRead_registersBy (op : Byte) (f : Cpu → Byte → Cpu) (src : Source) (s : State) :
    RegistersBy f s (undocRead op f src s) := by
  cases src <;> exact undocumented_registersBy _ _ _ (readOp_registersBy f _ s)

theorem undocStore_registersBy (op : Byte) (f : Cpu → Byte) (ea : Addressing) (s : State) :
    RegistersBy (fun c _ => c) s (undocStore op f ea s) :=
  undocumented_registersBy _ _ _ (storeOp_registersBy f ea s)

theorem undocRmw_registersBy (op : Byte) (f : Cpu → Byte → Byte × Cpu) (ea : Addressing) (s : State) :
    RegistersBy (fun c m => (f c m).2) s (undocRmw op f ea s) :=
  undocumented_registersBy _ _ _ (rmwOp_registersBy f ea s)

theorem undocNop_registersBy (op : Byte) (s : State) : RegistersBy (fun c _ => c) s (undocNop op s) :=
  undocumented_registersBy _ _ _ (impliedOp_registersBy id s)

theorem jam_registersBy (op : Byte) (s : State) : RegistersBy (fun c _ => c) s (jam op s) :=
  undocumented_registersBy _ _ _ (.inl (by rw [haltOp, State.setCpu_cpu, fetch_cpu]; rfl))

theorem unstable_registersBy (op : Byte) (bytes cycles : Nat) (s : State) :
    RegistersBy (fun c _ => c) s (unstable op bytes cycles s) :=
  undocumented_registersBy _ _ _ (.inl (raiseIllegal_registers op s))

/-! ### Every instruction -/

/-- The effect's name in place of the function it is, so that the shapes' lemmas match any instruction. -/
theorem RegistersBy.of_eq {e f : Cpu → Byte → Cpu} {s t : State} (h : RegistersBy f s t) (he : e = f) :
    RegistersBy e s t := he ▸ h

/-- Each instruction changes the registers by its mnemonic's effect. -/
theorem exec_registersBy {i : Instr} {s t : State} (h : exec i s = .next t) :
    RegistersBy (registerEffect i.addressing.isNone i.mnemonic) s t := by
  cases i <;> obtain rfl := Host.Outcome.next.inj h <;> (with_reducible first
    | refine (readOp_registersBy _ _ _).of_eq ?_
    | refine (impliedOp_registersBy _ _).of_eq ?_
    | refine (storeOp_registersBy _ _ _).of_eq ?_
    | refine (rmwOp_registersBy _ _ _).of_eq ?_
    | refine (undocRmw_registersBy _ _ _ _).of_eq ?_
    | refine (undocRead_registersBy _ _ _ _).of_eq ?_
    | refine (branch_registersBy _ _ _).of_eq ?_
    | refine (undocStore_registersBy _ _ _ _).of_eq ?_
    | refine (undocNop_registersBy _ _).of_eq ?_
    | refine (jam_registersBy _ _).of_eq ?_
    | refine (unstable_registersBy _ _ _ _).of_eq ?_
    | refine (pushOp_registersBy _ _).of_eq ?_
    | refine (pullOp_registersBy _ _).of_eq ?_
    | refine (jumpTo_registersBy _ _).of_eq ?_
    | refine (jumpIndirect_registersBy _ _).of_eq ?_
    | refine (jumpSubroutine_registersBy _ _).of_eq ?_
    | refine (returnSubroutine_registersBy _).of_eq ?_
    | refine (softwareInterrupt_registersBy _).of_eq ?_
    | refine (returnOp_registersBy _).of_eq ?_) <;> rfl

/-! ### Which effects write which register -/

section
variable {acc : Bool} {n : Mnemonic} (c : Cpu) (m : Byte)

theorem registerEffect_a (h : n ∉ ([.lda, .pla, .txa, .tya, .adc, .sbc, .and, .ora, .eor, .slo, .rla, .sre, .rra, .isc, .lax,
    .las, .anc, .alr, .arr, .usbc] : List Mnemonic)) (hs : n ∈ ([.asl, .lsr, .rol, .ror] : List Mnemonic) → acc = false) :
    (registerEffect acc n c m).a = c.a := by
  cases n <;> simp at h hs <;> subst_vars <;> rfl

theorem registerEffect_x (h : n ∉ ([.ldx, .tax, .tsx, .inx, .dex, .lax, .las, .axs] : List Mnemonic)) :
    (registerEffect acc n c m).x = c.x := by
  cases n <;> simp at h <;> rfl

theorem registerEffect_y (h : n ∉ ([.ldy, .tay, .iny, .dey] : List Mnemonic)) : (registerEffect acc n c m).y = c.y := by
  cases n <;> simp at h <;> rfl

theorem registerEffect_s (h : n ∉ ([.txs, .pha, .php, .pla, .plp, .jsr, .rts, .brk, .rti, .las] : List Mnemonic)) :
    (registerEffect acc n c m).s = c.s := by
  cases n <;> simp at h <;> rfl

theorem registerEffect_c (h : n ∉ ([.adc, .sbc, .cmp, .cpx, .cpy, .asl, .lsr, .rol, .ror, .clc, .sec, .plp, .rti, .slo, .rla,
    .sre, .rra, .dcp, .isc, .anc, .alr, .arr, .axs, .usbc] : List Mnemonic)) : (registerEffect acc n c m).c = c.c := by
  cases n <;> simp at h <;> rfl

theorem registerEffect_v (h : n ∉ ([.adc, .sbc, .bit, .clv, .plp, .rti, .arr, .rra, .isc, .usbc] : List Mnemonic)) :
    (registerEffect acc n c m).v = c.v := by
  cases n <;> simp at h <;> rfl

theorem registerEffect_d (h : n ∉ ([.sed, .cld, .plp, .rti] : List Mnemonic)) : (registerEffect acc n c m).d = c.d := by
  cases n <;> simp at h <;> rfl

theorem registerEffect_i (h : n ∉ ([.sei, .cli, .brk, .plp, .rti] : List Mnemonic)) :
    (registerEffect acc n c m).i = c.i := by
  cases n <;> simp at h <;> rfl

theorem registerEffect_zn (h : n ∉ ([.lda, .ldx, .ldy, .tax, .tay, .txa, .tya, .tsx, .pla, .inc, .inx, .iny, .dec, .dex, .dey,
    .adc, .sbc, .and, .ora, .eor, .asl, .lsr, .rol, .ror, .cmp, .cpx, .cpy, .bit, .plp, .rti, .slo, .rla, .sre, .rra, .dcp,
    .isc, .lax, .las, .anc, .alr, .arr, .axs, .usbc] : List Mnemonic)) :
    (registerEffect acc n c m).z = c.z ∧ (registerEffect acc n c m).n = c.n := by
  cases n <;> simp at h <;> exact ⟨rfl, rfl⟩

end

end Sys2Proof.Machine

namespace Sys2Proof.Certificates

open Machine

/-- Settles O38: where the registers are what the mnemonic's effect makes of them, each lemma on the effect gives the writers of
one register; where they are those before, nothing is left to show. -/
theorem registerFrame : Obligations.RegisterFrame := by
  intro i s t h n
  obtain hr | ⟨pc, m, hr⟩ := exec_registersBy h <;>
    obtain ⟨ha, hx, hy, hs, hc, hv, hd, hi, hz, hn⟩ := eq_of_registers_eq hr
  case inl => exact ⟨fun _ _ => ha, fun _ => hx, fun _ => hy, fun _ => hs, fun _ => hc, fun _ => hv, fun _ => hd, fun _ => hi,
    fun _ => ⟨hz, hn⟩⟩
  case inr =>
    refine ⟨fun h h' => ha.trans (registerEffect_a _ m h fun hshift => ?_), fun h => hx.trans (registerEffect_x _ m h),
      fun h => hy.trans (registerEffect_y _ m h), fun h => hs.trans (registerEffect_s _ m h),
      fun h => hc.trans (registerEffect_c _ m h), fun h => hv.trans (registerEffect_v _ m h),
      fun h => hd.trans (registerEffect_d _ m h), fun h => hi.trans (registerEffect_i _ m h), fun h => ?_⟩
    · exact Option.isNone_eq_false_iff.2 (Option.ne_none_iff_isSome.1 fun hacc => h' ⟨hshift, hacc⟩)
    · obtain ⟨ez, en⟩ := registerEffect_zn (acc := i.addressing.isNone) _ m h
      exact ⟨hz.trans ez, hn.trans en⟩

end Sys2Proof.Certificates

namespace Sys2Proof.Machine

/-! ## PPUCTRL and PPUMASK change by register writes only -/

/-- PPUCTRL and PPUMASK. -/
def Ppu.control (p : Ppu) : Byte × Byte := (p.ctrl, p.mask)

@[simp] theorem bgStage_control (d : Nat) (p : Ppu) : (bgStage d p).control = p.control := by
  unfold bgStage; split <;> rfl

@[simp] theorem pixelStage_control (y d : Nat) (p : Ppu) : (pixelStage y d p).control = p.control := by
  unfold pixelStage; split <;> rfl

@[simp] theorem fetchStage_control (s : State) (pre : Bool) (d : Nat) (p : Ppu) :
    (fetchStage s pre d p).control = p.control := by
  unfold fetchStage; split <;> rfl

@[simp] theorem evaluateStage_control (bug : Bool) (y d : Nat) (p : Ppu) :
    (evaluateStage bug y d p).control = p.control := by
  unfold evaluateStage
  repeat' split
  all_goals rfl

@[simp] theorem spriteStage_control (s : State) (y d : Nat) (p : Ppu) : (spriteStage s y d p).control = p.control := by
  unfold spriteStage spriteFetch
  simp only
  repeat' split
  all_goals rfl

@[simp] theorem clearFlagsStage_control (d : Nat) (p : Ppu) : (clearFlagsStage d p).control = p.control := by
  unfold clearFlagsStage; split <;> rfl

@[simp] theorem preRenderSprites_control (d : Nat) (p : Ppu) : (preRenderSprites d p).control = p.control := by
  unfold preRenderSprites
  simp only
  repeat' split
  all_goals rfl

theorem dotEvents_control (s : State) : (dotEvents s).control = s.ppu.control := by
  unfold dotEvents
  split
  · simp [preRenderDot]
  · simp [visibleDot]
  · split <;> rfl

theorem beamAdvance_control (r : Region) (p : Ppu) : (beamAdvance r p).control = p.control := by
  unfold beamAdvance
  repeat' split
  all_goals rfl

theorem ppuDot_control (s : State) : (ppuDot s).ppu.control = s.ppu.control :=
  (beamAdvance_control _ _).trans (dotEvents_control s)

theorem cpuRead_control (s : State) (a : Word) : (cpuRead s a).2.ppu.control = s.ppu.control := by
  unfold cpuRead ppuRegRead ppuStatusRead ppuDataRead apuStatusRead inputPortRead prgRamRead prgRomRead drawOpenBus
  simp only
  repeat' split
  all_goals rfl

/-- Of the pending bits a read clears at most the frame interrupt's, by 0x4015 (20_memory.md R210). -/
theorem cpuRead_pending (s : State) (a : Word) :
    (cpuRead s a).2.pending = s.pending ∨ (cpuRead s a).2.pending = { s.pending with irqApu := false } := by
  unfold cpuRead ppuRegRead ppuStatusRead ppuDataRead inputPortRead prgRamRead prgRomRead drawOpenBus
  simp only
  repeat' split
  all_goals first
    | exact .inl rfl
    | exact .inr rfl

/-! ## The cycles after a warm reset -/

/-- No pending bit stands. -/
def Pending.clear : Pending := { reset := false, nmi := false, irqApu := false, irqDmc := false, irqMapper := false }

/-- At most n cycles after the device resets of `reset()`, no bit is pending: with PPUCTRL and PPUMASK 0 there is no NMI
(61_ppu.md R936) and no mapper tick (R945), and the frame sequencer stands near the start of its sequence (62_apu.md R1052). -/
structure QuietFor (n : Nat) (s : State) : Prop where
  control : s.ppu.control = (0, 0)
  pending : s.pending = .clear
  cycle   : s.apu.cycle ≤ n

namespace QuietFor

variable {n : Nat} {s : State} (h : QuietFor n s)
include h

theorem setCpu (c : Cpu) : QuietFor n (s.setCpu c) := ⟨h.control, h.pending, h.cycle⟩

theorem setS (v : Byte) : QuietFor n (s.setS v) := h.setCpu _

theorem setPc (a : Word) : QuietFor n (s.setPc a) := h.setCpu _

theorem cpuRead (a : Word) : QuietFor n (cpuRead s a).2 := by
  refine ⟨(cpuRead_control s a).trans h.control, ?_, by rw [cpuRead_apu]; exact h.cycle⟩
  obtain hp | hp := cpuRead_pending s a
  · exact hp.trans h.pending
  · rw [hp, h.pending]; rfl

theorem ppuDot : QuietFor n (ppuDot s) := by
  obtain ⟨hc, hm⟩ := Prod.mk.inj h.control
  refine ⟨(ppuDot_control s).trans h.control, ?_, h.cycle⟩
  show dotPending s = .clear
  simp [dotPending, ticksMapper, renderingOn, hc, hm, h.pending, Pending.clear]

theorem ppuDots (k : Nat) : QuietFor n (ppuDots k s) := by
  induction k generalizing s with
  | zero => exact h
  | succ k ih => exact ih h.ppuDot

end QuietFor

theorem apuCycle_cycle_le (r : Region) (a : Apu) : (apuCycle r a).cycle ≤ a.cycle + 1 := by
  have restart (p : Prop) [Decidable p] : (if p then 0 else a.cycle + 1) ≤ a.cycle + 1 := by split <;> omega
  exact restart _

/-- The frame interrupt comes no sooner than the sequence's last quarter frame (62_apu.md R1021). -/
theorem seqIrq_eq_false (r : Region) {a : Apu} (h : a.cycle + 1 < 29829) : seqIrq r a = false := by
  have hq : 29829 ≤ (seqTable r).q4 := by cases r <;> decide
  have hne : a.cycle + 1 ≠ (seqTable r).q4 := by omega
  simp [seqIrq, hne]

namespace QuietFor

variable {n : Nat} {s : State} (h : QuietFor n s) (hn : n < 29828)
include h hn

theorem tick : QuietFor (n + 1) (tick s) := by
  have hirq : seqIrq s.region s.apu = false := seqIrq_eq_false _ (by have := h.cycle; omega)
  have hapu : QuietFor (n + 1) (apuTick s) := by
    refine ⟨h.control, ?_, (apuCycle_cycle_le s.region s.apu).trans (Nat.succ_le_succ h.cycle)⟩
    simp [apuTick, hirq, h.pending, Pending.clear]
  exact hapu.ppuDots _

theorem cycleRead (a : Word) : QuietFor (n + 1) (cycleRead s a).2 := (h.cpuRead a).tick hn

theorem dummyRead (a : Word) : QuietFor (n + 1) (dummyRead s a) := by
  unfold Machine.dummyRead
  split
  · exact h.cycleRead hn a
  · exact h.tick hn

theorem resetStackCycle : QuietFor (n + 1) (resetStackCycle s) := (h.dummyRead hn _).setS _

end QuietFor

theorem QuietFor.loadVector {n : Nat} {s : State} (h : QuietFor n s) (hn : n + 1 < 29828) (v : Word) :
    QuietFor (n + 2) (loadVector s v) :=
  ((h.cycleRead (by omega) v).cycleRead hn _).setPc _

theorem deviceReset_quietFor (s : State) : QuietFor 0 (deviceReset s) := ⟨rfl, rfl, Nat.le_refl 0⟩

/-! ## The parts of the RESET entry -/

theorem resetStackCycle_same (s : State) : SameMemory s (resetStackCycle s) := (dummyRead_same s _).setCpu _

theorem resetStackCycle_cpu (s : State) : (resetStackCycle s).cpu = { s.cpu with s := s.cpu.s - 1 } := by
  rw [resetStackCycle, State.setS_cpu, dummyRead_cpu]

@[simp] theorem resetStackCycle_cycles (s : State) : (resetStackCycle s).cycles = s.cycles + 1 := by
  simp [resetStackCycle]

theorem loadVector_same (s : State) (v : Word) : SameMemory s (loadVector s v) :=
  ((cycleRead_same s v).trans (cycleRead_same _ _)).setCpu _

@[simp] theorem loadVector_cycles (s : State) (v : Word) : (loadVector s v).cycles = s.cycles + 2 := by
  simp [loadVector]

/-- PC is loaded with the word at the vector, where memory stands there (20_memory.md R203). -/
theorem loadVector_word (s : State) (v : Word) : ∃ l h, (loadVector s v).cpu = { s.cpu with pc := wordOf l h }
    ∧ (∀ b, memByte s v = some b → l = b) ∧ (∀ b, memByte s (v + 1) = some b → h = b) :=
  ⟨(cycleRead s v).1, (cycleRead (cycleRead s v).2 (v + 1)).1,
    by rw [loadVector, State.setPc_cpu, cycleRead_cpu, cycleRead_cpu], fun _ => cpuRead_fst,
    fun _ hb => cpuRead_fst (((cycleRead_same s v).memByte _).trans hb)⟩

/-- The state in which the RESET entry loads its vector (60_exceptions.md R812). -/
def beforeResetVector (s : State) : State :=
  let t := (deviceReset s).setCpu { s.cpu with i := true, halted := false }
  let t := dummyRead (dummyRead t t.cpu.pc) t.cpu.pc
  resetStackCycle (resetStackCycle (resetStackCycle t))

theorem resetEntry_eq (s : State) : resetEntry s = loadVector (beforeResetVector s) 0xFFFC := rfl

theorem beforeResetVector_same (s : State) : SameMemory (deviceReset s) (beforeResetVector s) :=
  ((((((SameMemory.refl _).setCpu _).trans (dummyRead_same _ _)).trans (dummyRead_same _ _)).trans
    (resetStackCycle_same _)).trans (resetStackCycle_same _)).trans (resetStackCycle_same _)

theorem beforeResetVector_cpu (s : State) :
    (beforeResetVector s).cpu = { s.cpu with s := s.cpu.s - 3, i := true, halted := false } := by
  have hs : s.cpu.s - 1 - 1 - 1 = s.cpu.s - 3 := by rw [BitVec.sub_sub, BitVec.sub_sub]; rfl
  simp only [beforeResetVector, resetStackCycle_cpu, dummyRead_cpu, State.setCpu_cpu, hs]

theorem beforeResetVector_quietFor (s : State) : QuietFor 5 (beforeResetVector s) :=
  (((((((deviceReset_quietFor s).setCpu _).dummyRead (by decide) _).dummyRead (by decide) _).resetStackCycle
    (by decide)).resetStackCycle (by decide)).resetStackCycle (by decide))

@[simp] theorem beforeResetVector_cycles (s : State) : (beforeResetVector s).cycles = s.cycles + 5 := by
  simp [beforeResetVector, deviceReset]

theorem resetEntry_same (s : State) : SameMemory (deviceReset s) (resetEntry s) :=
  (beforeResetVector_same s).trans (loadVector_same _ _)

end Sys2Proof.Machine

namespace Sys2Proof.Certificates

open Machine

/-- Settles O12: the device resets come first; the seven cycles after them write nothing (`resetEntry_same`) and set no pending
bit (`QuietFor`). -/
theorem resetEntry : Obligations.ResetEntry := by
  intro s t
  obtain ⟨l, h, hcpu, hl, hh⟩ := loadVector_word (beforeResetVector s) 0xFFFC
  have same : SameMemory (deviceReset s) t := resetEntry_same s
  have vector : SameMemory (beforeResetVector s) t := loadVector_same _ _
  have quiet : QuietFor 7 t := (beforeResetVector_quietFor s).loadVector (by decide) _
  obtain ⟨hctrl, hmask⟩ := Prod.mk.inj quiet.control
  refine ⟨l, h, by rw [beforeResetVector_cpu] at hcpu; exact hcpu, fun b hb => hl b ?_, fun b hb => hh b ?_, quiet.pending,
    same.ram, same.prgRam, ⟨same.video.chrRam, same.video.oam, same.video.palette, same.video.ntram⟩,
    ⟨same.board.cart, same.board.params, same.board.present, same.board.regionOverride⟩, same.banking, hctrl, hmask, ?_⟩
  · exact (vector.memByte _).symm.trans hb
  · exact (vector.memByte _).symm.trans hb
  · show (loadVector (beforeResetVector s) 0xFFFC).cycles = s.cycles + 7
    simp

end Sys2Proof.Certificates

namespace Sys2Proof.Machine

/-! ## The board and the memories' form in every step -/

/-- No part of a step changes the board. -/
theorem sameBoard_keptByParts (s₀ : State) : KeptByParts (SameBoard s₀) where
  tick s h := h.trans (tick_same s).board
  read s a h := h.trans (cpuRead_same s a).board
  write s a v h := h.trans (cpuWrite_board s a v)
  cpu _ _ h := h.trans ⟨rfl, rfl, rfl, rfl⟩
  oamByte _ _ h := h.trans ⟨rfl, rfl, rfl, rfl⟩
  dmaDone _ h := h.trans ⟨rfl, rfl, rfl, rfl⟩
  stall _ h := h.trans ⟨rfl, rfl, rfl, rfl⟩
  dmcByte _ _ _ h := h.trans ⟨rfl, rfl, rfl, rfl⟩
  nmiTaken _ h := h.trans ⟨rfl, rfl, rfl, rfl⟩
  warm _ h := h.trans ⟨rfl, rfl, rfl, rfl⟩
  zero _ h := h.trans ⟨rfl, rfl, rfl, rfl⟩

/-- The canonical form speaks of seven fields only. -/
theorem MemoryForm.of_eq {s t : State} (h : MemoryForm s) (ram : t.ram = s.ram) (prgRam : t.prgRam = s.prgRam)
    (chrRam : t.chrRam = s.chrRam) (cart : t.cart = s.cart) (ppu : t.ppu = s.ppu) : MemoryForm t :=
  ⟨ram ▸ h.ram, cart ▸ prgRam ▸ h.prgRam, cart ▸ chrRam ▸ h.chrRam, ppu ▸ h.oam, ppu ▸ h.palette, ppu ▸ h.ntram,
    ppu ▸ h.frame⟩

/-- A warm reset changes none of the PPU's memories. -/
theorem deviceReset_form {s : State} (h : MemoryForm s) : MemoryForm (deviceReset s) :=
  ⟨h.ram, h.prgRam, h.chrRam, h.oam, h.palette, h.ntram, h.frame⟩

/-- Every part of a step keeps the memories' form. -/
theorem memoryForm_keptByParts : KeptByParts MemoryForm where
  tick _ := tick_form
  read _ a := cpuRead_form a
  write _ a v := cpuWrite_form a v
  cpu _ _ h := h.of_eq rfl rfl rfl rfl rfl
  oamByte _ v := oamDataWrite_form v
  dmaDone _ h := h.of_eq rfl rfl rfl rfl rfl
  stall _ h := h.of_eq rfl rfl rfl rfl rfl
  dmcByte _ _ _ h := h.of_eq rfl rfl rfl rfl rfl
  nmiTaken _ h := h.of_eq rfl rfl rfl rfl rfl
  warm _ := deviceReset_form
  zero _ h := h.of_eq rfl rfl rfl rfl rfl

end Sys2Proof.Machine

namespace Sys2Proof.Certificates

open Machine

/-- Settles O41: being of the same board as the first state is kept by every part of a step. -/
theorem boardNeverChanges : Obligations.BoardNeverChanges :=
  fun s _ h => (sameBoard_keptByParts s).step (.refl s) h

/-- Settles O42: every part of a step keeps the canonical form, so every step does. -/
theorem stepKeepsMemoryForm : Obligations.StepKeepsMemoryForm :=
  fun s t hs h => (memoryWf_iff t).2 (memoryForm_keptByParts.step ((memoryWf_iff s).1 hs) h)

end Sys2Proof.Certificates

namespace Sys2Proof.Machine

/-! ## Reads by address -/

/-- A read in the PRG RAM window (20_memory.md R204). -/
theorem cpuRead_prgRam (s : State) {a : Word} (h : 0x6000 ≤ a.toNat) (h' : a.toNat < 0x8000) :
    cpuRead s a = prgRamRead s a.toNat := by
  unfold cpuRead
  simp only
  rw [if_neg (by omega), if_neg (by omega), if_neg (by omega), if_neg (by omega), if_neg (by omega), if_neg (by omega),
    if_pos h']

/-- A read of enabled PRG RAM (21_cartridge_mappers.md R323). -/
theorem cpuRead_prgRam_fst {s : State} {a : Word} (h : 0x6000 ≤ a.toNat) (h' : a.toNat < 0x8000)
    (on : s.mapper.prgRamOn = true) (size : 0 < s.cart.prgRamSize) :
    (cpuRead s a).1 = sparseRead s.prgRam (prgRamOffset s.cart s.mapper a.toNat) := by
  rw [cpuRead_prgRam s h h', prgRamRead, if_pos ⟨on, size⟩]

/-- A read in the PPU's window is of the register that the address's low three bits name. -/
theorem cpuRead_ppu (s : State) {a : Word} (h : 0x2000 ≤ a.toNat) (h' : a.toNat < 0x4000) :
    cpuRead s a = ppuRegRead s (a.toNat % 8) := by
  unfold cpuRead
  simp only
  rw [if_neg (by omega), if_pos h']

/-! ## PRG RAM after a write to its window -/

/-- NINA-001's registers bank ROM only (R355): what selects and enables PRG RAM stays. -/
theorem ninaWrite_prgRam (c : Cartridge) (m : Mapper) (a : Word) (v : Byte) :
    (ninaWrite c m a v).prgRamMap = m.prgRamMap ∧ (ninaWrite c m a v).prgRamOn = m.prgRamOn := by
  unfold ninaWrite
  repeat' split
  all_goals exact ⟨rfl, rfl⟩

theorem prgRamOffset_ninaWrite (c : Cartridge) (m : Mapper) (a : Word) (v : Byte) (n : Nat) :
    prgRamOffset c (ninaWrite c m a v) n = prgRamOffset c m n := by
  rw [prgRamOffset, prgRamOffset, (ninaWrite_prgRam c m a v).1]

/-- A cell of PRG RAM after a write to its window (R323). -/
theorem sparseRead_prgRamWrite {s : State} (a : Word) (v : Byte) (k : Nat) (size : 0 < s.cart.prgRamSize) :
    sparseRead (prgRamWrite s a v).prgRam k =
      if s.mapper.prgRamWE = true ∧ k = prgRamOffset s.cart s.mapper a.toNat then v else sparseRead s.prgRam k := by
  unfold prgRamWrite
  by_cases we : s.mapper.prgRamWE = true
  · simp only [we, size, and_self, ↓reduceIte, true_and, sparseRead_write]
  · simp only [we, false_and, ↓reduceIte, Bool.false_eq_true]

/-! ## The draws -/

/-- The state after k open-bus draws in all. -/
def State.setOpenBus (s : State) (k : Nat) : State := { s with draws := { s.draws with openBus := k } }

theorem prgRamRead_snd (s : State) (n : Nat) : ∃ k, (prgRamRead s n).2 = s.setOpenBus k := by
  unfold prgRamRead
  split
  · exact ⟨s.draws.openBus, rfl⟩
  · exact ⟨s.draws.openBus + 1, rfl⟩

theorem prgRomRead_snd (s : State) (n : Nat) : ∃ k, (prgRomRead s n).2 = s.setOpenBus k := by
  unfold prgRomRead
  simp only
  split
  · exact ⟨s.draws.openBus, rfl⟩
  · exact ⟨s.draws.openBus + 1, rfl⟩

/-- Of the PPU's registers only PPUSTATUS and PPUDATA have a read side effect (R210). -/
theorem ppuRegRead_snd (s : State) {r : Nat} (h2 : r ≠ 2) (h7 : r ≠ 7) : ∃ k, (ppuRegRead s r).2 = s.setOpenBus k := by
  unfold ppuRegRead
  split
  · contradiction
  · exact ⟨s.draws.openBus, rfl⟩
  · contradiction
  · exact ⟨s.draws.openBus + 1, rfl⟩

/-- A PPUDATA read refills the buffer and moves v (61_ppu.md R911). -/
theorem ppuDataRead_snd (s : State) : ∃ k, (ppuDataRead s).2 =
    let p : BitVec 14 := s.ppu.v.setWidth 14
    { s.setOpenBus k with ppu := { s.ppu with
        readBuf := ppuRead s (if p.toNat < 0x3F00 then p else p - 0x1000), v := ppuDataIncrement s.ppu } } := by
  unfold ppuDataRead
  by_cases h : (s.ppu.v.setWidth 14 : BitVec 14).toNat < 0x3F00
  · have h' : (s.ppu.v.setWidth 14 : BitVec 14) < 0x3F00 := h
    exact ⟨s.draws.openBus, by simp only [h, h', ↓reduceIte]; rfl⟩
  · have h' : ¬(s.ppu.v.setWidth 14 : BitVec 14) < 0x3F00 := h
    exact ⟨s.draws.openBus + 1, by simp only [h, h', ↓reduceIte]; rfl⟩

/-- Below the palette a PPUDATA read gives the buffered byte (R911). -/
theorem ppuDataRead_fst {s : State} (h : (s.ppu.v.setWidth 14 : BitVec 14).toNat < 0x3F00) :
    (ppuDataRead s).1 = s.ppu.readBuf := by
  have h' : (s.ppu.v.setWidth 14 : BitVec 14) < 0x3F00 := h
  simp only [ppuDataRead, h', ↓reduceIte]

/-- Outside the ports with a side effect a read changes nothing but the count of the draws (R210). -/
theorem cpuRead_snd_of_no_effect (s : State) {a : Word} (hp2 : ¬(0x2000 ≤ a.toNat ∧ a.toNat < 0x4000 ∧ a.toNat % 8 = 2))
    (hp7 : ¬(0x2000 ≤ a.toNat ∧ a.toNat < 0x4000 ∧ a.toNat % 8 = 7)) (h15 : a.toNat ≠ 0x4015) (h16 : a.toNat ≠ 0x4016)
    (h17 : a.toNat ≠ 0x4017) : ∃ k, (cpuRead s a).2 = s.setOpenBus k := by
  unfold cpuRead
  simp only [h15, h16, h17, ↓reduceIte]
  split
  · exact ⟨s.draws.openBus, rfl⟩
  split
  · exact ppuRegRead_snd s (fun h => hp2 ⟨by omega, ‹_›, h⟩) (fun h => hp7 ⟨by omega, ‹_›, h⟩)
  split
  · exact ⟨s.draws.openBus + 1, rfl⟩
  split
  · exact prgRamRead_snd s _
  · exact prgRomRead_snd s _

end Sys2Proof.Machine

namespace Sys2Proof.Certificates

open Machine

/-- Settles O39: a write to RAM, or to PRG RAM that is enabled, is one sparse write at the cell its address names, and a read
through any mirror is one sparse read. -/
theorem readAfterWrite : Obligations.ReadAfterWrite := by
  refine ⟨fun s a b v ha hb => ?_, fun s a b v ha ha' hb hb' on size => ?_⟩
  · rw [cpuWrite_ram v ha, cpuRead_ram hb, cpuRead_ram hb]
    exact sparseRead_write _ _ _ _
  · have on' : (prgRamWrite s a v).mapper.prgRamOn = true := (ninaWrite_prgRam s.cart s.mapper a v).2.trans on
    have cell : prgRamOffset (prgRamWrite s a v).cart (prgRamWrite s a v).mapper b.toNat
        = prgRamOffset s.cart s.mapper b.toNat := prgRamOffset_ninaWrite ..
    rw [cpuWrite_prgRam v ha ha', cpuRead_prgRam_fst hb hb' on' size, cpuRead_prgRam_fst hb hb' on size,
      sparseRead_prgRamWrite a v _ size, cell]

/-- Settles O40: the five ports with a side effect, each by its register's own read, and every other address by
`cpuRead_snd_of_no_effect`. -/
theorem readSideEffects : Obligations.ReadSideEffects := by
  intro s a n ppuPort
  refine ⟨cpuRead_snd_of_no_effect s, fun ⟨lo, hi, port⟩ => ?_, fun ⟨lo, hi, port⟩ => ?_, fun h => ?_, fun h => ?_⟩
  · rw [cpuRead_ppu s lo hi, port]
    exact ⟨s.draws.openBus + 1, rfl⟩
  · rw [cpuRead_ppu s lo hi, port]
    obtain ⟨k, hk⟩ := ppuDataRead_snd s
    exact ⟨k, hk, ppuDataRead_fst⟩
  · refine ⟨s.draws.openBus + 1, ?_⟩
    rw [BitVec.eq_of_toNat_eq (x := a) (y := 0x4015) h]
    rfl
  · refine ⟨s.draws.openBus + 1, ?_⟩
    rcases h with h | h
    · rw [BitVec.eq_of_toNat_eq (x := a) (y := 0x4016) h]
      rfl
    · rw [BitVec.eq_of_toNat_eq (x := a) (y := 0x4017) h]
      rfl

end Sys2Proof.Certificates

namespace Sys2Proof.Machine

/-! ## Instructions that write nothing -/

theorem readOp_same (f : Cpu → Byte → Cpu) (src : Source) (s : State) : SameMemory s (readOp f src s) :=
  (readOperand_same src s).setCpu _

theorem impliedOp_same (f : Cpu → Cpu) (s : State) : SameMemory s (impliedOp f s) :=
  ((fetch_same s).trans (dummyRead_same _ _)).setCpu _

theorem pullOp_same (f : Cpu → Byte → Cpu) (s : State) : SameMemory s (pullOp f s) :=
  ((((fetch_same s).trans (dummyRead_same _ _)).trans (dummyRead_same _ _)).trans (pull_same _)).setCpu _

theorem branch_same (cond : Cpu → Bool) (off : Byte) (s : State) : SameMemory s (branch cond off s) := by
  have fetched : SameMemory s (fetchN 2 s) := fetchN_same 2 s
  unfold branch
  simp only
  split
  · refine SameMemory.setCpu ?_ _
    split
    · exact (fetched.trans (dummyRead_same _ _)).trans (dummyRead_same _ _)
    · exact fetched.trans (dummyRead_same _ _)
  · exact fetched

theorem jumpTo_same (a : Word) (s : State) : SameMemory s (jumpTo a s) := (fetchN_same 3 s).setCpu _

theorem jumpIndirect_same (a : Word) (s : State) : SameMemory s (jumpIndirect a s) :=
  (((fetchN_same 3 s).trans (cycleRead_same _ _)).trans (cycleRead_same _ _)).setCpu _

theorem returnSubroutine_same (s : State) : SameMemory s (returnSubroutine s) :=
  ((((((fetch_same s).trans (dummyRead_same _ _)).trans (dummyRead_same _ _)).trans (pull_same _)).trans
    (pull_same _)).trans (dummyRead_same _ _)).setCpu _

theorem returnFromInterrupt_same (s : State) : SameMemory s (returnFromInterrupt s) :=
  ((((pull_same s).setCpu _).trans (pull_same _)).trans (pull_same _)).setCpu _

theorem returnOp_same (s : State) : SameMemory s (returnOp s) :=
  (((fetch_same s).trans (dummyRead_same _ _)).trans (dummyRead_same _ _)).trans (returnFromInterrupt_same _)

theorem raiseIllegal_same (op : Byte) (s : State) : SameMemory s (raiseIllegal op s) := (cycleRead_same s _).setCpu _

theorem skipOp_same (bytes cycles : Nat) (s : State) : SameMemory s (skipOp bytes cycles s) :=
  (fetchN_same bytes s).trans (ticks_same _ _)

theorem haltOp_same (s : State) : SameMemory s (haltOp s) := (fetch_same s).setCpu _

/-! ## Pushes -/

/-- RAM after pushing these bytes in order, with S as given. -/
def ramPushed : List Byte → Byte → Mem → Mem
  | [], _, m => m
  | v :: vs, p, m => ramPushed vs (p - 1) (sparseWrite m (stackCell p) v)

theorem sparseRead_ramPushed_other {vs : List Byte} {p : Byte} {k : Nat} (m : Mem)
    (h : ∀ j < vs.length, k ≠ stackCell (p - BitVec.ofNat 8 j)) : sparseRead (ramPushed vs p m) k = sparseRead m k := by
  induction vs generalizing p m with
  | nil => rfl
  | cons v vs ih =>
    have hk : k ≠ stackCell p := by simpa using h 0 (Nat.succ_pos _)
    refine (ih _ fun j hj => ?_).trans (sparseRead_write_other _ _ hk)
    have hsub : p - 1 - BitVec.ofNat 8 j = p - BitVec.ofNat 8 (j + 1) := by
      rw [BitVec.sub_sub, BitVec.add_comm, BitVec.ofNat_add]
      rfl
    rw [hsub]
    exact h (j + 1) (Nat.succ_lt_succ hj)

/-- Nothing is written but n bytes pushed from S on. -/
structure SameButPushed (n : Nat) (s t : State) : Prop where
  memory : SameButRam s t
  ram    : ∃ vs, vs.length = n ∧ t.ram = ramPushed vs s.cpu.s s.ram

theorem SameMemory.butPushed {s t : State} (h : SameMemory s t) : SameButPushed 0 s t := ⟨h.butRam, [], rfl, h.ram⟩

theorem SameButPushed.sameMemory {s t : State} (h : SameButPushed 0 s t) : SameMemory s t := by
  obtain ⟨memory, vs, hlen, hram⟩ := h
  obtain rfl := List.eq_nil_of_length_eq_zero hlen
  exact ⟨memory.board, memory.video, memory.banking, hram, memory.prgRam, memory.strobe, memory.oamDma⟩

/-- What only fetches and reads before the pushes or after them changes nothing about them. -/
theorem SameMemory.pushed {n : Nat} {s t u : State} (h : SameMemory s t) (hs : t.cpu.s = s.cpu.s) (g : SameButPushed n t u) :
    SameButPushed n s u := by
  obtain ⟨memory, vs, hlen, hram⟩ := g
  exact ⟨h.butRam.trans memory, vs, hlen, by rw [hram, hs, h.ram]⟩

theorem SameButPushed.after {n : Nat} {s t u : State} (h : SameButPushed n s t) (g : SameMemory t u) :
    SameButPushed n s u := by
  obtain ⟨memory, vs, hlen, hram⟩ := h
  exact ⟨memory.trans g.butRam, vs, hlen, g.ram.trans hram⟩

theorem push_butPushed (s : State) (v : Byte) : SameButPushed 1 s (push s v) := ⟨push_same s v, [v], rfl, push_ram s v⟩

theorem pushPc_butPushed (s : State) : SameButPushed 2 s (pushPc s) :=
  ⟨pushPc_same s, [hiByte s.cpu.pc, loByte s.cpu.pc], rfl, pushPc_ram s⟩

/-- RAM after an entry: the return address, high byte first, and the status byte are pushed (60_exceptions.md R810). -/
theorem enter_ram (b : Bool) (v : Word) (s : State) : (enter b v s).ram =
    ramPushed [hiByte s.cpu.pc, loByte s.cpu.pc, packP b s.cpu] s.cpu.s s.ram := by
  have hs : s.cpu.s - 1 - 1 = s.cpu.s - 2 := BitVec.sub_sub ..
  rw [enter, (loadVector_same _ _).ram, State.setCpu_ram, push_ram, pushPc_ram, pushPc_cpu]
  simp only [ramPushed, hs]
  rfl

theorem enter_same (b : Bool) (v : Word) (s : State) : SameButRam s (enter b v s) :=
  (((pushPc_same s).trans (push_same _ _)).setCpu _).trans (loadVector_same _ _).butRam

theorem enter_butPushed (b : Bool) (v : Word) (s : State) : SameButPushed 3 s (enter b v s) :=
  ⟨enter_same b v s, _, rfl, enter_ram b v s⟩

/-! ## What an instruction does to memory -/

theorem SameButStored.refl (a : Word) (s : State) : SameButStored a s s :=
  ⟨.refl s, fun _ => .refl s, fun _ => .refl _, fun _ _ => rfl, fun _ _ => rfl, fun _ => rfl, fun _ => rfl⟩

/-- No register below 0x8000 selects the PRG RAM bank (R355). -/
theorem cpuWrite_prgRamMap {s : State} {a : Word} (v : Byte) (h : a.toNat < 0x8000) :
    (cpuWrite s a v).mapper.prgRamMap = s.mapper.prgRamMap := by
  unfold cpuWrite
  simp only
  repeat' split
  · rfl
  · exact congrArg Mapper.prgRamMap (ppuRegWrite_frame s _ v).2.2.2.1
  · rfl
  · rfl
  · rfl
  · rfl
  · exact (ninaWrite_prgRam s.cart s.mapper a v).1

/-- Two stores at one address: the second names the cell of the first. -/
theorem SameButStored.trans {a : Word} {s t u : State} (h : SameButStored a s t) (g : SameButStored a t u)
    (bank : a.toNat < 0x8000 → t.mapper.prgRamMap = s.mapper.prgRamMap) : SameButStored a s u where
  board := h.board.trans g.board
  video x := (h.video x).trans (g.video x)
  banking x := (h.banking x).trans (g.banking (((h.banking x).registers a).trans x))
  ram k hk := (g.ram k hk).trans (h.ram k hk)
  prgRam k hk := by
    refine (g.prgRam k fun ⟨lo, hi, cell⟩ => hk ⟨lo, hi, ?_⟩).trans (h.prgRam k hk)
    rw [cell, prgRamOffset, prgRamOffset, h.board.cart, bank hi]
  strobe x := (g.strobe x).trans (h.strobe x)
  oamDma x := (g.oamDma x).trans (h.oamDma x)

theorem dummyWrite_prgRamMap {s : State} {a : Word} (v : Byte) (h : a.toNat < 0x8000) :
    (dummyWrite s a v).mapper.prgRamMap = s.mapper.prgRamMap := by
  unfold dummyWrite
  split
  · exact (tick_same _).banking.prgRamMap.trans (cpuWrite_prgRamMap v h)
  · exact (tick_same s).banking.prgRamMap

theorem storeOp_stored (f : Cpu → Byte) (ea : Addressing) (s : State) :
    SameButStored (effectiveAddress ea s) s (storeOp f ea s) := by
  rw [← addressOf_fst .write ea s]
  exact (addressOf_same .write ea s).stored (cycleWrite_stored _ _ _)

/-- A read-modify-write instruction stores twice at its effective address under `dummyAccesses` (R1136). -/
theorem rmwOp_stored (f : Cpu → Byte → Byte × Cpu) (ea : Addressing) (s : State) :
    SameButStored (effectiveAddress ea s) s (rmwOp f ea s) := by
  let p := addressOf .rmw ea s
  let r := cycleRead p.2 p.1
  let t := dummyWrite r.2 p.1 r.1
  have read : SameMemory s r.2 := (addressOf_same .rmw ea s).trans (cycleRead_same _ _)
  have dummy : SameButStored p.1 s t := read.stored (dummyWrite_stored _ _ _)
  have bank (h : p.1.toNat < 0x8000) : t.mapper.prgRamMap = s.mapper.prgRamMap :=
    (dummyWrite_prgRamMap r.1 h).trans read.banking.prgRamMap
  rw [← addressOf_fst .rmw ea s]
  exact (dummy.after ((SameMemory.refl t).setCpu _)).trans (cycleWrite_stored _ _ _) bank

/-- The addressing form of an instruction that stores. -/
def storeAddress (i : Instr) : Option Addressing := if writesMemory i then i.addressing else none

/-- What an instruction does to memory, from where it stores and how many bytes it pushes. -/
def MemoryBy (store : Option Addressing) (n : Nat) (s t : State) : Prop :=
  match store with
  | some ea => SameButStored (effectiveAddress ea s) s t
  | none => SameButPushed n s t

theorem SameMemory.memoryBy {s t : State} (h : SameMemory s t) (store : Option Addressing) : MemoryBy store 0 s t := by
  cases store with
  | some ea => exact h.stored (.refl _ t)
  | none => exact h.butPushed

theorem storeOp_memoryBy (f : Cpu → Byte) (ea : Addressing) (s : State) : MemoryBy (some ea) 0 s (storeOp f ea s) :=
  storeOp_stored f ea s

theorem rmwOp_memoryBy (f : Cpu → Byte → Byte × Cpu) (ea : Addressing) (s : State) :
    MemoryBy (some ea) 0 s (rmwOp f ea s) :=
  rmwOp_stored f ea s

theorem undocumented_memoryBy {store : Option Addressing} {nmos : State → State} {s : State} (op : Byte)
    (bytes cycles : Nat) (h : MemoryBy store 0 s (nmos s)) :
    MemoryBy store 0 s (undocumented op bytes cycles nmos s) := by
  unfold undocumented
  split
  · exact (raiseIllegal_same op s).memoryBy store
  · exact (skipOp_same bytes cycles s).memoryBy store
  · exact h

theorem undocRead_memoryBy (op : Byte) (f : Cpu → Byte → Cpu) (src : Source) (s : State) :
    MemoryBy none 0 s (undocRead op f src s) := by
  cases src <;> exact undocumented_memoryBy _ _ _ ((readOp_same f _ s).memoryBy none)

theorem undocStore_memoryBy (op : Byte) (f : Cpu → Byte) (ea : Addressing) (s : State) :
    MemoryBy (some ea) 0 s (undocStore op f ea s) :=
  undocumented_memoryBy _ _ _ (storeOp_memoryBy f ea s)

theorem undocRmw_memoryBy (op : Byte) (f : Cpu → Byte → Byte × Cpu) (ea : Addressing) (s : State) :
    MemoryBy (some ea) 0 s (undocRmw op f ea s) :=
  undocumented_memoryBy _ _ _ (rmwOp_memoryBy f ea s)

theorem undocNop_memoryBy (op : Byte) (s : State) : MemoryBy none 0 s (undocNop op s) :=
  undocumented_memoryBy _ _ _ ((impliedOp_same id s).memoryBy none)

theorem jam_memoryBy (op : Byte) (s : State) : MemoryBy none 0 s (jam op s) :=
  undocumented_memoryBy _ _ _ ((haltOp_same s).memoryBy none)

theorem unstable_memoryBy (op : Byte) (bytes cycles : Nat) (s : State) :
    MemoryBy none 0 s (unstable op bytes cycles s) :=
  undocumented_memoryBy _ _ _ ((raiseIllegal_same op s).memoryBy none)

theorem pushOp_memoryBy (f : Cpu → Byte) (s : State) : MemoryBy none 1 s (pushOp f s) :=
  ((fetch_same s).trans (dummyRead_same _ _)).pushed (by rw [dummyRead_cpu, fetch_cpu]) (push_butPushed _ _)

theorem jumpSubroutine_memoryBy (a : Word) (s : State) : MemoryBy none 2 s (jumpSubroutine a s) :=
  (((fetchN_same 2 s).trans (dummyRead_same _ _)).pushed (by rw [dummyRead_cpu, fetchN_cpu]) (pushPc_butPushed _)).after
    ((cycleRead_same _ _).setCpu _)

theorem softwareInterrupt_memoryBy (s : State) : MemoryBy none 3 s (softwareInterrupt s) :=
  (fetchN_same 2 s).pushed (by rw [fetchN_cpu]) (enter_butPushed _ _ _)

/-- Where the instruction stores and how much it pushes in place of the shape's own, so that the shapes' lemmas match any
instruction. -/
theorem MemoryBy.of_eq {store store' : Option Addressing} {n n' : Nat} {s t : State} (h : MemoryBy store n s t)
    (hs : store' = store) (hn : n' = n) : MemoryBy store' n' s t := hs ▸ hn ▸ h

/-- Each instruction writes memory only where it stores or pushes. -/
theorem exec_memoryBy {i : Instr} {s t : State} (h : exec i s = .next t) : MemoryBy (storeAddress i) (pushes i) s t := by
  cases i <;> obtain rfl := Host.Outcome.next.inj h <;> (with_reducible first
    | refine ((readOp_same _ _ _).memoryBy none).of_eq ?_ ?_
    | refine ((impliedOp_same _ _).memoryBy none).of_eq ?_ ?_
    | refine (storeOp_memoryBy _ _ _).of_eq ?_ ?_
    | refine (rmwOp_memoryBy _ _ _).of_eq ?_ ?_
    | refine (undocRmw_memoryBy _ _ _ _).of_eq ?_ ?_
    | refine (undocRead_memoryBy _ _ _ _).of_eq ?_ ?_
    | refine ((branch_same _ _ _).memoryBy none).of_eq ?_ ?_
    | refine (undocStore_memoryBy _ _ _ _).of_eq ?_ ?_
    | refine (undocNop_memoryBy _ _).of_eq ?_ ?_
    | refine (jam_memoryBy _ _).of_eq ?_ ?_
    | refine (unstable_memoryBy _ _ _ _).of_eq ?_ ?_
    | refine (pushOp_memoryBy _ _).of_eq ?_ ?_
    | refine ((pullOp_same _ _).memoryBy none).of_eq ?_ ?_
    | refine ((jumpTo_same _ _).memoryBy none).of_eq ?_ ?_
    | refine ((jumpIndirect_same _ _).memoryBy none).of_eq ?_ ?_
    | refine (jumpSubroutine_memoryBy _ _).of_eq ?_ ?_
    | refine ((returnSubroutine_same _).memoryBy none).of_eq ?_ ?_
    | refine (softwareInterrupt_memoryBy _).of_eq ?_ ?_
    | refine ((returnOp_same _).memoryBy none).of_eq ?_ ?_) <;> rfl

theorem exec_butPushed {i : Instr} {s t : State} (hw : writesMemory i = false) (h : exec i s = .next t) :
    SameButPushed (pushes i) s t := by
  have hi : storeAddress i = none := by rw [storeAddress, if_neg (by simp [hw])]
  have key := exec_memoryBy h
  rwa [hi] at key

theorem exec_stored {i : Instr} {ea : Addressing} {s t : State} (hw : writesMemory i = true) (ha : i.addressing = some ea)
    (h : exec i s = .next t) : SameButStored (effectiveAddress ea s) s t := by
  have hi : storeAddress i = some ea := by rw [storeAddress, if_pos hw, ha]
  have key := exec_memoryBy h
  rwa [hi] at key

/-! ## The bytes of memory after a change -/

/-- With the board, the banking and the cells that an address can show unchanged, it shows the same byte. -/
theorem memByte_eq {s t : State} {a : Word} (board : SameBoard s t) (banking : SameBanking s.mapper t.mapper)
    (ram : a.toNat < 0x2000 → sparseRead t.ram (a.toNat % 0x800) = sparseRead s.ram (a.toNat % 0x800))
    (prgRam : 0x6000 ≤ a.toNat → a.toNat < 0x8000 → sparseRead t.prgRam (prgRamOffset s.cart s.mapper a.toNat) =
      sparseRead s.prgRam (prgRamOffset s.cart s.mapper a.toNat)) : memByte t a = memByte s a := by
  have hrom : prgRomOffset t.mapper a.toNat = prgRomOffset s.mapper a.toNat := by
    rw [prgRomOffset, prgRomOffset, banking.prgMap]
  have hoff : prgRamOffset s.cart t.mapper a.toNat = prgRamOffset s.cart s.mapper a.toNat := by
    rw [prgRamOffset, prgRamOffset, banking.prgRamMap]
  unfold memByte
  simp only [board.cart, banking.prgRamOn, hrom, hoff]
  by_cases h1 : a.toNat < 0x2000
  · rw [if_pos h1, if_pos h1, ram h1]
  by_cases h2 : a.toNat < 0x6000
  · rw [if_neg h1, if_neg h1, if_pos h2, if_pos h2]
  by_cases h3 : a.toNat < 0x8000
  · simp only [h1, h2, h3, ↓reduceIte, prgRam (Nat.le_of_not_lt h2) h3]
  · simp only [h1, h2, h3, ↓reduceIte]

/-- Where only RAM is written, every address above it shows what it did, and so does an address of a cell left alone. -/
theorem SameButRam.memByte_eq {s t : State} {a : Word} (h : SameButRam s t)
    (ram : a.toNat < 0x2000 → sparseRead t.ram (a.toNat % 0x800) = sparseRead s.ram (a.toNat % 0x800)) :
    memByte t a = memByte s a :=
  Machine.memByte_eq h.board h.banking ram fun _ _ => by rw [h.prgRam]

/-- A push changes only the bytes of the cells that S named. -/
theorem SameButPushed.memByte_eq {n : Nat} {s t : State} {a : Word} (h : SameButPushed n s t)
    (other : ∀ j < n, ¬(a.toNat < 0x2000 ∧ a.toNat % 0x800 = stackCell (s.cpu.s - BitVec.ofNat 8 j))) :
    memByte t a = memByte s a := by
  obtain ⟨memory, vs, rfl, hram⟩ := h
  refine memory.memByte_eq fun ha => ?_
  rw [hram]
  exact sparseRead_ramPushed_other _ fun j hj cell => other j hj ⟨ha, cell⟩

/-- A store that moves no bank changes only the bytes of the cell that its address names. -/
theorem SameButStored.memByte_eq {s t : State} {e a : Word} (h : SameButStored e s t)
    (banking : SameBanking s.mapper t.mapper)
    (ram : ¬(e.toNat < 0x2000 ∧ a.toNat < 0x2000 ∧ a.toNat % 0x800 = e.toNat % 0x800))
    (prgRam : ¬(0x6000 ≤ e.toNat ∧ e.toNat < 0x8000 ∧ 0x6000 ≤ a.toNat ∧ a.toNat < 0x8000
      ∧ prgRamOffset s.cart s.mapper a.toNat = prgRamOffset s.cart s.mapper e.toNat)) : memByte t a = memByte s a :=
  Machine.memByte_eq h.board banking (fun ha => h.ram _ fun ⟨he, cell⟩ => ram ⟨he, ha, cell⟩)
    (fun lo hi => h.prgRam _ fun ⟨he, he', cell⟩ => prgRam ⟨he, he', lo, hi, cell⟩)

end Sys2Proof.Machine

namespace Sys2Proof.Certificates

open Machine

/-- Settles O36: an instruction that stores nothing pushes only (`exec_butPushed`), and nothing at all is written where it pushes
no byte. -/
theorem frameNoStore : Obligations.FrameNoStore := by
  refine ⟨fun i s t hw hp h => ?_, fun i s t hw h => ?_⟩
  · have same : SameMemory s t := (hp ▸ exec_butPushed hw h).sameMemory
    exact ⟨same, same.memByte⟩
  · have pushed := exec_butPushed hw h
    exact ⟨pushed.memory, fun a => pushed.memByte_eq⟩

/-- Settles O37: an instruction that stores leaves what a store at its effective address leaves (`exec_stored`), also where a
dummy write comes first. -/
theorem frameStore : Obligations.FrameStore := by
  intro i ea s t hw ha h e
  have stored : SameButStored e s t := exec_stored hw ha h
  exact ⟨stored, fun banking a => stored.memByte_eq banking⟩

end Sys2Proof.Certificates

namespace Sys2Proof.Machine

/-! ## The entries -/

/-- Three bytes pushed, cell by cell. -/
theorem sparseRead_ramPushed_three (m : Mem) (p u v w : Byte) (k : Nat) : sparseRead (ramPushed [u, v, w] p m) k =
    if k = stackCell p then u else if k = stackCell (p - 1) then v else if k = stackCell (p - 2) then w
    else sparseRead m k := by
  have h01 : stackCell p ≠ stackCell (p - 1) := by unfold stackCell; bv_omega
  have h02 : stackCell p ≠ stackCell (p - 2) := by unfold stackCell; bv_omega
  have h12 : stackCell (p - 1) ≠ stackCell (p - 2) := by unfold stackCell; bv_omega
  have hs : p - 1 - 1 = p - 2 := BitVec.sub_sub ..
  simp only [ramPushed, hs, sparseRead_write]
  by_cases h0 : k = stackCell p
  · simp only [h0, h01, h02, ↓reduceIte]
  by_cases h1 : k = stackCell (p - 1)
  · simp only [h1, h12, h01.symm, ↓reduceIte]
  · simp only [h0, h1, ↓reduceIte]

@[simp] theorem enter_cycles (b : Bool) (v : Word) (s : State) : (enter b v s).cycles = s.cycles + 5 := by
  simp [enter]

/-- What an entry does (60_exceptions.md R810, 46_system.md R680), from a state u reached in two cycles in which PC alone may
have moved; PC becomes the word at the vector, where memory stands there (20_memory.md R203). -/
theorem enter_entered (b : Bool) {v : Word} {s u : State} (hv : 0x2000 ≤ v.toNat) (hv' : 0x2000 ≤ (v + 1).toNat)
    (same : SameMemory s u) (cpu : u.cpu = { s.cpu with pc := u.cpu.pc }) (cycles : u.cycles = s.cycles + 2) :
    ∃ l h, Entered b u.cpu.pc l h s (enter b v u)
      ∧ (∀ x, memByte s v = some x → l = x) ∧ (∀ x, memByte s (v + 1) = some x → h = x) := by
  let t := push (pushPc u) (packP b (pushPc u).cpu)
  have pushed : SameButRam s t := (same.butRam.trans (pushPc_same u)).trans (push_same _ _)
  have vectorByte : ∀ a : Word, 0x2000 ≤ a.toNat → memByte (t.setCpu { t.cpu with i := true }) a = memByte s a :=
    fun a ha => (pushed.setCpu _).memByte_eq fun hlt => absurd hlt (by omega)
  obtain ⟨l, h, hcpu, hl, hh⟩ := loadVector_word (t.setCpu { t.cpu with i := true }) v
  have hs : u.cpu.s = s.cpu.s := by rw [cpu]
  have hp : packP b u.cpu = packP b s.cpu := by rw [cpu]; rfl
  refine ⟨l, h, ⟨?_, fun k => ?_, same.butRam.trans (enter_same b v u), ?_⟩,
    fun x hx => hl x ((vectorByte v hv).trans hx), fun x hx => hh x ((vectorByte _ hv').trans hx)⟩
  · have hpc : (enter b v u).cpu.pc = wordOf l h := congrArg Cpu.pc hcpu
    rw [enter_cpu, hpc, cpu]
  · rw [enter_ram, sparseRead_ramPushed_three, hs, hp, same.ram]
  · rw [enter_cycles, cycles]

/-- An NMI or IRQ entry's two dummy reads are its first two cycles (R810, 70_reset_and_hazards.md R1141). -/
theorem interruptEntry_entered {v : Word} (s : State) (hv : 0x2000 ≤ v.toNat) (hv' : 0x2000 ≤ (v + 1).toNat) :
    ∃ l h, Entered false s.cpu.pc l h s (interruptEntry v s)
      ∧ (∀ x, memByte s v = some x → l = x) ∧ (∀ x, memByte s (v + 1) = some x → h = x) := by
  have hcpu : (dummyRead (dummyRead s s.cpu.pc) s.cpu.pc).cpu = s.cpu := by rw [dummyRead_cpu, dummyRead_cpu]
  have key := enter_entered false hv hv' ((dummyRead_same s s.cpu.pc).trans (dummyRead_same _ s.cpu.pc))
    (by rw [hcpu]) (by rw [dummyRead_cycles, dummyRead_cycles])
  rwa [hcpu] at key

/-! ## The pending bits in an entry -/

/-- P is kept by every part of an NMI or IRQ entry from a PC: device time, reads at that PC and in the ROM window, where the
vectors are, writes to RAM, and changes of CPU registers. -/
structure KeptByEntry (pc : Word) (P : State → Prop) : Prop where
  apuTick : ∀ s, P s → P (apuTick s)
  ppuDot  : ∀ s, P s → P (ppuDot s)
  read    : ∀ s a, a = pc ∨ 0x8000 ≤ a.toNat → P s → P (cpuRead s a).2
  ram     : ∀ s m, P s → P { s with ram := m }
  cpu     : ∀ s c, P s → P (s.setCpu c)

namespace KeptByEntry

variable {pc : Word} {P : State → Prop} (h : KeptByEntry pc P)
include h

theorem ppuDots (n : Nat) (s : State) (hs : P s) : P (ppuDots n s) := by
  induction n generalizing s with
  | zero => exact hs
  | succ n ih => exact ih _ (h.ppuDot s hs)

theorem tick (s : State) (hs : P s) : P (tick s) := h.ppuDots _ _ (h.apuTick s hs)

theorem dummyRead (s : State) (hs : P s) : P (dummyRead s pc) := by
  unfold Machine.dummyRead
  split
  · exact h.tick _ (h.read s pc (.inl rfl) hs)
  · exact h.tick s hs

theorem push (s : State) (v : Byte) (hs : P s) : P (push s v) := by
  refine h.cpu _ _ (h.tick _ ?_)
  rw [cpuWrite_ram v (stackAddr_lt s.cpu)]
  exact h.ram s _ hs

theorem loadVector (s : State) {v : Word} (hv : 0x8000 ≤ v.toNat) (hv' : 0x8000 ≤ (v + 1).toNat) (hs : P s) :
    P (loadVector s v) :=
  h.cpu _ _ (h.tick _ (h.read _ _ (.inr hv') (h.tick _ (h.read s _ (.inr hv) hs))))

theorem interruptEntry {s : State} {v : Word} (hpc : s.cpu.pc = pc) (hv : 0x8000 ≤ v.toNat) (hv' : 0x8000 ≤ (v + 1).toNat)
    (hs : P s) : P (interruptEntry v s) := by
  unfold Machine.interruptEntry
  rw [hpc]
  exact h.loadVector _ hv hv' (h.cpu _ _ (h.push _ _ (h.push _ _ (h.push _ _ (h.dummyRead _ (h.dummyRead s hs))))))

end KeptByEntry

/-- No NMI is pending, and PPUCTRL bit 7 keeps vblank from raising one (61_ppu.md R936). -/
structure NoNmi (s : State) : Prop where
  off     : s.ppu.control.1.getLsbD 7 = false
  pending : s.pending.nmi = false

theorem noNmi_keptByEntry (pc : Word) : KeptByEntry pc NoNmi where
  apuTick _ h := ⟨h.off, h.pending⟩
  ppuDot s h := by
    have off : s.ppu.ctrl.getLsbD 7 = false := h.off
    refine ⟨by rw [ppuDot_control]; exact h.off, ?_⟩
    show (dotPending s).nmi = false
    simp only [dotPending, h.pending, off, Bool.and_false, Bool.or_self]
  read s a _ h := by
    refine ⟨by rw [cpuRead_control]; exact h.off, ?_⟩
    obtain hp | hp := cpuRead_pending s a <;> rw [hp] <;> exact h.pending
  ram _ _ h := ⟨h.off, h.pending⟩
  cpu _ _ h := ⟨h.off, h.pending⟩

/-- Of the pending bits p every IRQ bit still stands in q. -/
structure IrqsKept (p q : Pending) : Prop where
  apu    : p.irqApu = true → q.irqApu = true
  dmc    : p.irqDmc = true → q.irqDmc = true
  mapper : p.irqMapper = true → q.irqMapper = true

theorem IrqsKept.refl (p : Pending) : IrqsKept p p := ⟨id, id, id⟩

/-- Only a read of 0x4015 clears a pending bit (20_memory.md R210). -/
theorem cpuRead_pending_eq (s : State) {a : Word} (h : a ≠ 0x4015) : (cpuRead s a).2.pending = s.pending := by
  have h15 : a.toNat ≠ 0x4015 := fun e => h (BitVec.eq_of_toNat_eq e)
  unfold cpuRead ppuRegRead ppuStatusRead ppuDataRead inputPortRead prgRamRead prgRomRead drawOpenBus
  simp only [h15, ↓reduceIte]
  repeat' split
  all_goals rfl

/-- Devices only raise IRQ bits, and no access of an entry from a PC other than 0x4015 clears one (60_exceptions.md R804). -/
theorem irqsKept_keptByEntry (p : Pending) {pc : Word} (hpc : pc ≠ 0x4015) :
    KeptByEntry pc (fun s => IrqsKept p s.pending) where
  apuTick s h := ⟨fun e => by simp [apuTick, h.apu e], h.dmc, h.mapper⟩
  ppuDot s h := ⟨h.apu, h.dmc, fun e => by simp [ppuDot, dotPending, h.mapper e]⟩
  read s a ha h := by
    have h15 : a ≠ 0x4015 := by
      rintro rfl
      exact ha.elim (fun e => hpc e.symm) (by decide)
    rw [cpuRead_pending_eq s h15]
    exact h
  ram _ _ h := h
  cpu _ _ h := h

end Sys2Proof.Machine

namespace Sys2Proof.Certificates

open Machine

/-- Settles O11: both entries are one `enter` after two dummy reads (`interruptEntry_entered`); the NMI bit, cleared first, stays
clear (`NoNmi`), and every IRQ bit stays set (`IrqsKept`). -/
theorem interruptEntries : Obligations.InterruptEntries := by
  intro s
  let z : State := { s with pending := { s.pending with nmi := false } }
  refine ⟨?_, interruptEntry_entered s (by decide) (by decide), fun hctrl => ?_, fun hpc t ht => ?_⟩
  · obtain ⟨l, h, ⟨cpu, ram, ⟨board, video, banking, prgRam, strobe, oamDma⟩, cycles⟩, hl, hh⟩ :=
      interruptEntry_entered (v := 0xFFFA) z (by decide) (by decide)
    exact ⟨l, h, ⟨cpu, ram, ⟨⟨board.cart, board.params, board.present, board.regionOverride⟩,
      ⟨video.chrRam, video.oam, video.palette, video.ntram⟩, banking, prgRam, strobe, oamDma⟩, cycles⟩, hl, hh⟩
  · have quiet : NoNmi z := ⟨hctrl, rfl⟩
    have after : NoNmi (interruptEntry 0xFFFA z) :=
      (noNmi_keptByEntry s.cpu.pc).interruptEntry rfl (by decide) (by decide) quiet
    exact after.pending
  · have kept : IrqsKept s.pending t.pending := by
      obtain rfl | rfl := ht
      · exact (irqsKept_keptByEntry s.pending hpc).interruptEntry (s := z) (v := 0xFFFA) rfl (by decide) (by decide)
          ⟨id, id, id⟩
      · exact (irqsKept_keptByEntry s.pending hpc).interruptEntry rfl (by decide) (by decide) (.refl _)
    exact ⟨kept.apu, kept.dmc, kept.mapper⟩

end Sys2Proof.Certificates

namespace Sys2Proof.Machine

/-! ## Bits as numbers -/

theorem getLsbD_eq_decide {w : Nat} (x : BitVec w) (i : Nat) : x.getLsbD i = decide (x.toNat / 2 ^ i % 2 = 1) := by
  rw [← BitVec.testBit_toNat, Nat.testBit_eq_decide_div_mod_eq]

theorem extractLsb'_toNat_eq {w : Nat} (x : BitVec w) (i n : Nat) : (x.extractLsb' i n).toNat = x.toNat / 2 ^ i % 2 ^ n := by
  rw [BitVec.extractLsb'_toNat, Nat.shiftRight_eq_div_pow]

theorem lowNibble_toNat (x : Byte) : (x.extractLsb' 0 4).toNat = x.toNat % 16 := by
  rw [extractLsb'_toNat_eq]
  omega

theorem highNibble_toNat (x : Byte) : (x.extractLsb' 4 4).toNat = x.toNat / 16 := by
  rw [extractLsb'_toNat_eq]
  omega

theorem highNibble_eq (x : Byte) : x.extractLsb' 4 4 = BitVec.ofNat 4 (x.toNat / 16) := by
  rw [← highNibble_toNat, BitVec.ofNat_toNat, BitVec.setWidth_eq]

theorem lowBit_eq {w : Nat} (x : BitVec w) : x.getLsbD 0 = decide (x.toNat % 2 = 1) := by
  rw [getLsbD_eq_decide, Nat.pow_zero, Nat.div_one]

/-- Address bits 14:13 name the 8 KiB of the ROM window (21_cartridge_mappers.md R341, R361). -/
theorem registerSelect_toNat {a : Word} (h : 0x8000 ≤ a.toNat) :
    (a.extractLsb' 13 2).toNat = (a.toNat - 0x8000) / 0x2000 := by
  rw [extractLsb'_toNat_eq]
  omega

/-! ## Banks in range -/

/-- The chip's registers have their widths (21_cartridge_mappers.md R340, R360). -/
def Chip.InRange : Chip → Prop
  | .mmc1 r => r.writesCount ≤ 4
  | .mmc3 r => r.r.length = 8
  | _ => True

/-- Every window shows a bank of its memory, and the chip's registers have their widths. -/
structure Banked (c : Cartridge) (m : Mapper) : Prop where
  prgWindows : m.prgMap.length = 4
  chrWindows : m.chrMap.length = 8
  prg        : ∀ b ∈ m.prgMap, b ≤ bankMask c.prgRom.size 0x2000
  chr        : ∀ b ∈ m.chrMap, b ≤ bankMask (chrSize c) 0x400
  prgRam     : m.prgRamMap ≤ bankMask c.prgRamSize 0x2000
  chip       : m.chip.InRange

theorem banksInRange_iff (s : State) : s.BanksInRange ↔ Banked s.cart s.mapper := by
  refine ⟨fun h => ⟨h.prgWindows, h.chrWindows, h.prg, h.chr, h.prgRam, ?_⟩,
    fun h => ⟨h.prgWindows, h.chrWindows, h.prg, h.chr, h.prgRam, fun r e => ?_, fun r e => ?_⟩⟩
  · cases e : s.mapper.chip with
    | mmc1 r => exact h.mmc1 r e
    | mmc3 r => exact h.mmc3 r e
    | _ => trivial
  · exact (e ▸ h.chip : (Chip.mmc1 r).InRange)
  · exact (e ▸ h.chip : (Chip.mmc3 r).InRange)

theorem windowBank_le (size win k b i : Nat) : windowBank size win k b i ≤ bankMask size win := Nat.and_le_right

/-- A mapping shows only banks of the memory (R320). -/
theorem setWindows_le {size win : Nat} (k b w : Nat) {m : List Nat} (h : ∀ x ∈ m, x ≤ bankMask size win) :
    ∀ x ∈ setWindows size win k b w m, x ≤ bankMask size win := by
  unfold setWindows
  induction List.range k generalizing m with
  | nil => exact h
  | cons i l ih =>
    refine ih fun x hx => ?_
    rcases List.mem_or_eq_of_mem_set hx with hx | rfl
    · exact h x hx
    · exact windowBank_le ..

namespace Banked

variable {c : Cartridge} {m : Mapper}

/-- Nothing but the maps and the chip's registers is bounded. -/
theorem withChip (h : Banked c m) {k : Chip} (hk : k.InRange) (mi : Mirroring) (on we : Bool) :
    Banked c { m with chip := k, mirroring := mi, prgRamOn := on, prgRamWE := we } :=
  ⟨h.prgWindows, h.chrWindows, h.prg, h.chr, h.prgRam, hk⟩

theorem mapPrg (h : Banked c m) (k b w : Nat) : Banked c (mapPrg c k b w m) :=
  ⟨(setWindows_length ..).trans h.prgWindows, h.chrWindows, setWindows_le k b w h.prg, h.chr, h.prgRam, h.chip⟩

theorem mapChr (h : Banked c m) (k b u : Nat) : Banked c (mapChr c k b u m) :=
  ⟨h.prgWindows, (setWindows_length ..).trans h.chrWindows, h.prg, setWindows_le k b u h.chr, h.prgRam, h.chip⟩

theorem mmc1Prg (h : Banked c m) (r : Mmc1) : Banked c (mmc1Prg c r m) := by
  unfold Machine.mmc1Prg
  simp only
  split
  · exact (h.mapPrg ..).mapPrg ..
  · exact (h.mapPrg ..).mapPrg ..
  · exact h.mapPrg ..

theorem mmc1Chr (h : Banked c m) (r : Mmc1) : Banked c (mmc1Chr c r m) := by
  unfold Machine.mmc1Chr
  split
  · exact (h.mapChr ..).mapChr ..
  · exact h.mapChr ..

theorem mmc1PrgRam (h : Banked c m) (r : Mmc1) : Banked c (mmc1PrgRam c r m) := by
  unfold Machine.mmc1PrgRam
  split
  · exact ⟨h.prgWindows, h.chrWindows, h.prg, h.chr, Nat.and_le_right, h.chip⟩
  · exact h

theorem mmc1Apply (h : Banked c m) {r : Mmc1} (hr : r.writesCount ≤ 4) : Banked c (mmc1Apply c r m) :=
  (((h.withChip (k := .mmc1 r) hr ..).mmc1Prg r).mmc1Chr r).mmc1PrgRam r

theorem mmc1Write (h : Banked c m) {r : Mmc1} (hr : r.writesCount ≤ 4) (a : Word) (v : Byte) :
    Banked c (mmc1Write c r m a v) := by
  unfold Machine.mmc1Write
  simp only
  split
  · exact h.mmc1Apply (Nat.zero_le 4)
  split
  · exact h.mmc1Apply (Nat.zero_le 4)
  · refine h.withChip ?_ ..
    show r.writesCount + 1 ≤ 4
    omega

theorem mmc3Prg (h : Banked c m) (r : Mmc3) : Banked c (mmc3Prg c r m) := by
  unfold Machine.mmc3Prg
  simp only
  split
  · exact (((h.mapPrg ..).mapPrg ..).mapPrg ..).mapPrg ..
  · exact (((h.mapPrg ..).mapPrg ..).mapPrg ..).mapPrg ..

theorem mmc3Chr (h : Banked c m) (r : Mmc3) : Banked c (mmc3Chr c r m) :=
  (((((((h.mapChr ..).mapChr ..).mapChr ..).mapChr ..).mapChr ..).mapChr ..).mapChr ..).mapChr ..

theorem mmc3Apply (h : Banked c m) {r : Mmc3} (hr : r.r.length = 8) : Banked c (mmc3Apply c r m) :=
  ((h.withChip (k := .mmc3 r) hr ..).mmc3Prg r).mmc3Chr r

theorem mmc3Write (h : Banked c m) {r : Mmc3} (hr : r.r.length = 8) (a : Word) (v : Byte) :
    Banked c (mmc3Write c r m a v) := by
  unfold Machine.mmc3Write
  split
  · exact h.mmc3Apply hr
  · exact h.mmc3Apply ((List.length_set ..).trans hr)
  · split
    · exact h
    · exact h.withChip h.chip ..
  · exact h.withChip h.chip ..
  all_goals
    refine h.withChip ?_ ..
    exact hr

/-- A write to the chip's registers (R324). -/
theorem mapperWrite (h : Banked c m) (p : Params) (a : Word) (v : Byte) : Banked c (mapperWrite p c m a v) := by
  have hchip := h.chip
  unfold Machine.mapperWrite
  cases e : m.chip with
  | nrom => exact h
  | mmc1 r => exact h.mmc1Write (by rwa [e] at hchip) a v
  | unrom => exact h.mapPrg ..
  | cnrom => exact h.mapChr ..
  | mmc3 r => exact h.mmc3Write (by rwa [e] at hchip) a v
  | aorom => exact (h.withChip (k := .aorom) trivial ..).mapPrg ..
  | colorDreams =>
    simp only
    split
    · exact (h.mapPrg ..).mapChr ..
    · exact ((h.mapPrg ..).mapChr ..).withChip h.chip ..
  | bnrom => exact h.mapPrg ..
  | nina001 => exact h

/-- A write to NINA-001's registers (R355). -/
theorem ninaWrite (h : Banked c m) (a : Word) (v : Byte) : Banked c (ninaWrite c m a v) := by
  unfold Machine.ninaWrite
  repeat' split
  · exact h.mapPrg ..
  · exact h.mapChr ..
  · exact h.mapChr ..
  · exact h
  · exact h

/-- The PPU's tick moves only MMC3's counter (R366). -/
theorem mapperTick (h : Banked c m) : Banked c (mapperTick m) := by
  have hchip := h.chip
  unfold Machine.mapperTick
  split
  · next r e =>
    rw [e] at hchip
    refine h.withChip (k := .mmc3 _) (show (mmc3Tick r).r.length = 8 from ?_) ..
    unfold mmc3Tick
    split <;> exact hchip
  · exact h

end Banked

/-- The banking before a chip maps anything shows bank 0 in every window (R321). -/
theorem freshMapper_banked (c : Cartridge) {k : Chip} (hk : k.InRange) : Banked c (freshMapper c k) :=
  ⟨rfl, rfl, by simp [freshMapper], by simp [freshMapper], Nat.zero_le _, hk⟩

/-- Every chip's reset banks in range (R315). -/
theorem resetMapper_banked (c : Cartridge) : Banked c (resetMapper c) := by
  have fresh : ∀ k : Chip, k.InRange → Banked c (freshMapper c k) := fun _ => freshMapper_banked c
  unfold resetMapper
  cases c.mapperId with
  | nrom => exact ((fresh .nrom trivial).mapPrg ..).mapChr ..
  | mmc1 => exact (fresh .nrom trivial).mmc1Apply (Nat.zero_le 4)
  | unrom => exact (((fresh .unrom trivial).mapPrg ..).mapPrg ..).mapChr ..
  | cnrom => exact ((fresh .cnrom trivial).mapPrg ..).mapChr ..
  | mmc3 => exact (fresh .nrom trivial).mmc3Apply rfl
  | aorom => exact (((fresh .aorom trivial).withChip (k := .aorom) trivial ..).mapPrg ..).mapChr ..
  | colorDreams => exact ((fresh .colorDreams trivial).mapPrg ..).mapChr ..
  | bnrom => exact ((fresh .bnrom trivial).mapPrg ..).mapChr ..
  | nina001 => exact (((fresh .nina001 trivial).mapPrg ..).mapChr ..).mapChr ..
  | other => exact fresh .nrom trivial

/-! ## Banks in range in every step -/

theorem State.BanksInRange.of_eq {s t : State} (h : s.BanksInRange) (cart : t.cart = s.cart) (mapper : t.mapper = s.mapper) :
    t.BanksInRange := by
  rw [banksInRange_iff] at h ⊢
  rwa [cart, mapper]

/-- A read leaves the mapper as it is. -/
theorem cpuRead_mapper (s : State) (a : Word) : (cpuRead s a).2.mapper = s.mapper := by
  unfold cpuRead ppuRegRead ppuStatusRead ppuDataRead apuStatusRead inputPortRead prgRamRead prgRomRead drawOpenBus
  simp only
  repeat' split
  all_goals rfl

theorem ppuDot_banksInRange {s : State} (h : s.BanksInRange) : (ppuDot s).BanksInRange := by
  have banked : Banked s.cart s.mapper := (banksInRange_iff s).1 h
  refine (banksInRange_iff _).2 (show Banked s.cart (if ticksMapper s.ppu then mapperTick s.mapper else s.mapper) from ?_)
  split
  · exact banked.mapperTick
  · exact banked

theorem ppuDots_banksInRange (n : Nat) {s : State} (h : s.BanksInRange) : (ppuDots n s).BanksInRange := by
  induction n generalizing s with
  | zero => exact h
  | succ n ih => exact ih (ppuDot_banksInRange h)

theorem tick_banksInRange {s : State} (h : s.BanksInRange) : (tick s).BanksInRange :=
  ppuDots_banksInRange _ (h.of_eq rfl rfl)

/-- Below the PRG RAM window a write reaches no chip (20_memory.md R205). -/
theorem cpuWrite_mapper_below {s : State} {a : Word} (v : Byte) (h : a.toNat < 0x6000) :
    (cpuWrite s a v).mapper = s.mapper := by
  rcases Nat.lt_or_ge a.toNat 0x2000 with ram | ram
  · rw [cpuWrite_ram v ram]
  rcases Nat.lt_or_ge a.toNat 0x4000 with ppu | ppu
  · rw [cpuWrite_ppu v ram ppu]
    exact (ppuRegWrite_frame ..).2.2.2.1
  by_cases apu : a.toNat < 0x4014 ∨ a.toNat = 0x4015 ∨ a.toNat = 0x4017
  · rw [cpuWrite_apu v ppu apu]
  by_cases dma : a.toNat = 0x4014
  · rw [cpuWrite_dma v dma]
  by_cases strobe : a.toNat = 0x4016
  · rw [cpuWrite_strobe v strobe]
  · rw [cpuWrite_nothing v (by omega) h]

/-- Only the chip's registers bank. -/
theorem cpuWrite_banksInRange {s : State} (a : Word) (v : Byte) (h : s.BanksInRange) : (cpuWrite s a v).BanksInRange := by
  have banked : Banked s.cart s.mapper := (banksInRange_iff s).1 h
  rcases Nat.lt_or_ge a.toNat 0x6000 with low | low
  · exact h.of_eq (cpuWrite_board s a v).cart (cpuWrite_mapper_below v low)
  rcases Nat.lt_or_ge a.toNat 0x8000 with high | high
  · rw [cpuWrite_prgRam v low high]
    exact (banksInRange_iff _).2 (banked.ninaWrite a v)
  · rw [cpuWrite_mapper v high]
    exact (banksInRange_iff _).2 (banked.mapperWrite s.params a v)

/-- Every part of a step keeps the banks in range. -/
theorem banksInRange_keptByParts : KeptByParts State.BanksInRange where
  tick _ := tick_banksInRange
  read s a h := h.of_eq (cpuRead_same s a).board.cart (cpuRead_mapper s a)
  write _ a v := cpuWrite_banksInRange a v
  cpu _ _ h := h.of_eq rfl rfl
  oamByte _ _ h := h.of_eq rfl rfl
  dmaDone _ h := h.of_eq rfl rfl
  stall _ h := h.of_eq rfl rfl
  dmcByte _ _ _ h := h.of_eq rfl rfl
  nmiTaken _ h := h.of_eq rfl rfl
  warm s _ := (banksInRange_iff (deviceReset s)).2 (resetMapper_banked s.cart)
  zero _ h := h.of_eq rfl rfl

end Sys2Proof.Machine

namespace Sys2Proof.Certificates

open Machine

/-- Settles O44: every part of a step keeps the banks in range; a reset maps afresh, and every mapping is masked. -/
theorem stepKeepsBanks : Obligations.StepKeepsBanks :=
  fun _ _ hs h => banksInRange_keptByParts.step hs h

end Sys2Proof.Certificates

namespace Sys2Proof.Machine

/-! ## PPU memory by address -/

section
variable (s : State) {a : BitVec 14} (v : Byte)

theorem ppuRead_chr (h : a.toNat < 0x2000) : ppuRead s a = chrRead s a.toNat := if_pos h

theorem ppuRead_nametable (h : 0x2000 ≤ a.toNat) (h' : a.toNat < 0x3F00) :
    ppuRead s a = sparseRead s.ppu.ntram (ntIndex s.mapper a.toNat) := by
  unfold ppuRead
  simp only
  rw [if_neg (by omega), if_pos h']

theorem ppuRead_palette (h : 0x3F00 ≤ a.toNat) :
    ppuRead s a = (sparseRead s.ppu.palette (paletteIndex a.toNat)).setWidth 8 := by
  unfold ppuRead
  simp only
  rw [if_neg (by omega), if_neg (by omega)]

/-- A write to CHR stores in CHR RAM only (21_cartridge_mappers.md R325). -/
theorem ppuWrite_chr (h : a.toNat < 0x2000) : ppuWrite s a v = { s with chrRam := (ppuWrite s a v).chrRam } := by
  unfold ppuWrite
  simp only [h, ↓reduceIte]
  split <;> rfl

theorem ppuWrite_chrRom (h : a.toNat < 0x2000) (rom : s.cart.chrRom ≠ none) : ppuWrite s a v = s := by
  unfold ppuWrite
  simp only [h, rom, false_and, ↓reduceIte]

theorem ppuWrite_chrRam (h : a.toNat < 0x2000) (rom : s.cart.chrRom = none)
    (inside : chrOffset s.mapper a.toNat < s.cart.chrRamSize) :
    ppuWrite s a v = { s with chrRam := sparseWrite s.chrRam (chrOffset s.mapper a.toNat) v } := by
  unfold ppuWrite
  simp only [h, rom, chrSize, inside, and_self, ↓reduceIte]

theorem ppuWrite_nametable (h : 0x2000 ≤ a.toNat) (h' : a.toNat < 0x3F00) :
    ppuWrite s a v = { s with ppu := { s.ppu with
      ntram := sparseWrite s.ppu.ntram (ntIndex s.mapper a.toNat) v } } := by
  unfold ppuWrite
  simp only
  rw [if_neg (by omega), if_pos h']

theorem ppuWrite_palette (h : 0x3F00 ≤ a.toNat) :
    ppuWrite s a v = { s with ppu := { s.ppu with
      palette := sparseWrite s.ppu.palette (paletteIndex a.toNat) (v.setWidth 6) } } := by
  unfold ppuWrite
  simp only
  rw [if_neg (by omega), if_neg (by omega)]

end

/-- A CHR byte of a board with CHR RAM (R325, log 7). -/
theorem chrRead_ram {s : State} (rom : s.cart.chrRom = none) (p : Nat) :
    chrRead s p = if chrOffset s.mapper p < s.cart.chrRamSize then sparseRead s.chrRam (chrOffset s.mapper p)
      else Config.chrBeyondEnd (chrOffset s.mapper p) s.draws.openBus := by
  unfold chrRead
  simp only [chrSize, rom]

/-- The palette keeps the low six bits of a byte (61_ppu.md R914). -/
theorem setWidth_six (v : Byte) : (v.setWidth 6).setWidth 8 = v &&& 0x3F := by
  apply BitVec.eq_of_toNat_eq
  have low : (v &&& 0x3F).toNat = v.toNat % 64 := Nat.and_two_pow_sub_one_eq_mod v.toNat 6
  rw [low, BitVec.toNat_setWidth, BitVec.toNat_setWidth]
  omega

/-! ## A PPU read after a PPU write -/

theorem ppuRead_write_palette (s : State) {a b : BitVec 14} (v : Byte) (ha : 0x3F00 ≤ a.toNat) (hb : 0x3F00 ≤ b.toNat) :
    ppuRead (ppuWrite s a v) b = if paletteIndex b.toNat = paletteIndex a.toNat then v &&& 0x3F else ppuRead s b := by
  rw [ppuWrite_palette s v ha, ppuRead_palette _ hb, ppuRead_palette _ hb, sparseRead_write]
  split
  · exact setWidth_six v
  · rfl

theorem ppuRead_write_nametable (s : State) {a b : BitVec 14} (v : Byte) (ha : 0x2000 ≤ a.toNat) (ha' : a.toNat < 0x3F00)
    (hb : 0x2000 ≤ b.toNat) (hb' : b.toNat < 0x3F00) : ppuRead (ppuWrite s a v) b =
      if ntIndex s.mapper b.toNat = ntIndex s.mapper a.toNat then v else ppuRead s b := by
  rw [ppuWrite_nametable s v ha ha', ppuRead_nametable _ hb hb', ppuRead_nametable _ hb hb']
  exact sparseRead_write ..

theorem ppuRead_write_chrRam (s : State) {a b : BitVec 14} (v : Byte) (ha : a.toNat < 0x2000) (hb : b.toNat < 0x2000)
    (rom : s.cart.chrRom = none) (inside : chrOffset s.mapper a.toNat < s.cart.chrRamSize) :
    ppuRead (ppuWrite s a v) b =
      if chrOffset s.mapper b.toNat = chrOffset s.mapper a.toNat then v else ppuRead s b := by
  rw [ppuWrite_chrRam s v ha rom inside, ppuRead_chr _ hb, ppuRead_chr _ hb]
  simp only [chrRead_ram, rom, sparseRead_write]
  by_cases cell : chrOffset s.mapper b.toNat = chrOffset s.mapper a.toNat
  · simp only [cell, inside, ↓reduceIte]
  · simp only [cell, ↓reduceIte]

/-- A write to one of the three parts of PPU memory is not seen in another (61_ppu.md R912). -/
theorem ppuRead_write_other (s : State) {a b : BitVec 14} (v : Byte)
    (parts : (a.toNat < 0x2000 ↔ ¬b.toNat < 0x2000) ∨ (a.toNat < 0x3F00 ↔ ¬b.toNat < 0x3F00)) :
    ppuRead (ppuWrite s a v) b = ppuRead s b := by
  rcases Nat.lt_or_ge a.toNat 0x2000 with chr | above
  · rw [ppuWrite_chr s v chr]
    rcases Nat.lt_or_ge b.toNat 0x3F00 with hb | hb
    · rw [ppuRead_nametable _ (by omega) hb, ppuRead_nametable _ (by omega) hb]
    · rw [ppuRead_palette _ hb, ppuRead_palette _ hb]
  rcases Nat.lt_or_ge a.toNat 0x3F00 with nametable | palette
  · rw [ppuWrite_nametable s v above nametable]
    rcases Nat.lt_or_ge b.toNat 0x2000 with hb | hb
    · rw [ppuRead_chr _ hb, ppuRead_chr _ hb]
      rfl
    · rw [ppuRead_palette _ (by omega), ppuRead_palette _ (by omega)]
  · rw [ppuWrite_palette s v palette]
    rcases Nat.lt_or_ge b.toNat 0x2000 with hb | hb
    · rw [ppuRead_chr _ hb, ppuRead_chr _ hb]
      rfl
    · rw [ppuRead_nametable _ hb (by omega), ppuRead_nametable _ hb (by omega)]

end Sys2Proof.Machine

namespace Sys2Proof.Certificates

open Machine

/-- Settles O51: each part of PPU memory is one sparse memory, read and written at the cell that `paletteIndex`, `ntIndex` or
`chrOffset` gives for an address. -/
theorem ppuMemoryMap : Obligations.PpuMemoryMap := by
  intro s a b v i pages cell
  have page : ∀ k < 4, pages.getD k 0 = nametablePage s.mapper.mirroring k := by
    cases mi : s.mapper.mirroring <;> simp only [pages, mi] <;> decide
  have hcell : ∀ n, cell n = ntIndex s.mapper n := fun n => by
    simp only [cell, ntIndex, page _ (Nat.mod_lt _ (by decide : 0 < 4))]
  refine ⟨ppuRead_write_palette s v, fun ha ha' hb hb' => ?_, ppuRead_write_chrRam s v, ppuWrite_chrRom s v,
    ppuRead_write_other s v⟩
  rw [hcell, hcell]
  exact ppuRead_write_nametable s v ha ha' hb hb'

end Sys2Proof.Certificates

namespace Sys2Proof.Machine

/-! ## ROM contents -/

theorem sparseRead_cons {w : Nat} (m : Sparse w) (a : Nat) (v : BitVec w) (k : Nat) :
    sparseRead ((a, v) :: m) k = if k = a then v else sparseRead m k := by
  simp only [sparseRead, sparseLookup]
  split <;> rfl

/-- Below its first index a list in sparse form reads as 0. -/
theorem sparseRead_ofList_below {w : Nat} (vs : List (BitVec w)) {lo k : Nat} (h : k < lo) :
    sparseRead (sparseOfList lo vs) k = 0 := by
  induction vs generalizing lo with
  | nil => rfl
  | cons v vs ih =>
    unfold sparseOfList
    split
    · exact ih (by omega)
    · rw [sparseRead_cons, if_neg (by omega), ih (by omega)]

theorem sparseRead_ofList {w : Nat} (vs : List (BitVec w)) (lo k : Nat) :
    sparseRead (sparseOfList lo vs) (lo + k) = vs.getD k 0 := by
  induction vs generalizing lo k with
  | nil => rfl
  | cons v vs ih =>
    unfold sparseOfList
    cases k with
    | zero =>
      split
      · next hv => exact (sparseRead_ofList_below vs (by omega)).trans hv.symm
      · exact (sparseRead_cons ..).trans (if_pos rfl)
    | succ k =>
      have tail : sparseRead (sparseOfList (lo + 1) vs) (lo + (k + 1)) = vs.getD k 0 := by
        rw [show lo + (k + 1) = lo + 1 + k by omega]
        exact ih (lo + 1) k
      split
      · exact tail
      · rw [sparseRead_cons, if_neg (by omega)]
        exact tail

/-- The bytes of a ROM are the image's, from the offset on (21_cartridge_mappers.md R307). -/
theorem sparseRead_romAt (bs : List Byte) (off : Nat) {n k : Nat} (h : k < n) :
    sparseRead (romAt bs off n).bytes k = bs.getD (off + k) 0 := by
  have read := sparseRead_ofList ((bs.drop off).take n) 0 k
  rw [Nat.zero_add] at read
  simp [romAt, read, List.getD_eq_getElem?_getD, h]

/-! ## The loader -/

/-- The header's fields as numbers (R302–R306). -/
theorem headerOf_eq (bs : List Byte) : headerOf bs =
    (let b := fun i => (headerByte bs i).toNat
     let nes2 := b 7 / 8 % 2 = 1
     { nes2 := decide nes2
       prgUnits := b 4 + (if nes2 then 256 * (b 9 % 16) else 0)
       chrUnits := b 5 + (if nes2 then 256 * (b 9 / 16) else 0)
       mirroring := if b 6 / 8 % 2 = 1 then .fourScreen else if b 6 % 2 = 1 then .vertical else .horizontal
       battery := decide (b 6 / 2 % 2 = 1)
       trainer := decide (b 6 / 4 % 2 = 1)
       mapperNum := b 6 / 16 + 16 * (b 7 / 16) + (if nes2 then 256 * (b 8 % 16) else 0)
       submapperId := if nes2 then some (BitVec.ofNat 4 (b 8 / 16)) else none
       region := if (if nes2 then b 12 else b 9) % 2 = 1 then .pal else .ntsc
       byte8 := headerByte bs 8
       byte10 := headerByte bs 10
       byte11 := headerByte bs 11 }) := by
  unfold headerOf unitCount
  by_cases nes2 : (headerByte bs 7).toNat / 8 % 2 = 1 <;>
    simp only [getLsbD_eq_decide, Nat.pow_zero, Nat.div_one, Nat.reducePow, decide_eq_true_eq, nes2, decide_true, decide_false,
      Bool.false_eq_true, ↓reduceIte, lowNibble_toNat, highNibble_toNat, ← highNibble_eq, Nat.mul_comm]

/-- PRG RAM's size and its battery-backed part (R308, R309). -/
theorem prgRamSizes_eq (h : Header) : prgRamSizes h =
    (let size := if h.nes2 then ramSizeOf (h.byte10.extractLsb' 0 4) + ramSizeOf (h.byte10.extractLsb' 4 4)
       else if h.byte8.toNat = 0 then 0x2000 else h.byte8.toNat * 0x2000
     (size, if h.nes2 then ramSizeOf (h.byte10.extractLsb' 4 4) else if h.battery then size else 0)) := by
  have zero : h.byte8 = 0 ↔ h.byte8.toNat = 0 := BitVec.toNat_inj.symm
  unfold prgRamSizes
  cases h.nes2
  · by_cases byte8 : h.byte8.toNat = 0 <;> simp only [zero, byte8, Bool.false_eq_true, ↓reduceIte, Nat.one_mul]
  · rfl

/-- CHR RAM's size and its battery-backed part (R308, R309, D23). -/
theorem chrRamSizes_eq (h : Header) : chrRamSizes h =
    (let size := if h.nes2 then ramSizeOf (h.byte11.extractLsb' 0 4) + ramSizeOf (h.byte11.extractLsb' 4 4) else 0
     (if h.chrUnits = 0 ∧ size = 0 then 0x2000 else size, if h.nes2 then ramSizeOf (h.byte11.extractLsb' 4 4) else 0)) := by
  unfold chrRamSizes
  cases h.nes2
  · simp only [Bool.false_eq_true, ↓reduceIte, and_true]
  · rfl

theorem ramSizeOf_eq (c : BitVec 4) : ramSizeOf c = if c.toNat = 0 then 0 else 2 ^ (c.toNat - 1) * 128 := by
  unfold ramSizeOf
  have zero : c = 0 ↔ c.toNat = 0 := BitVec.toNat_inj.symm
  simp only [zero]

section
variable {bs : List Byte}

theorem parse_unsigned (h : bs.take 4 ≠ [0x4E, 0x45, 0x53, 0x1A]) : parse bs = .error .formatError := if_pos h

variable (signed : bs.take 4 = [0x4E, 0x45, 0x53, 0x1A])
include signed

theorem parse_short (h : bs.length < 16) : parse bs = .error .truncatedError := by
  unfold parse
  rw [if_neg (not_not.2 signed), if_pos h]

theorem parse_header (h : 16 ≤ bs.length) : parse bs =
    if (headerOf bs).prgUnits = 0 then .error .invalidHeaderError
    else if bs.length < imageLength (headerOf bs) then .error .truncatedError
    else .ok (cartridgeOf (headerOf bs) bs) := by
  unfold parse
  rw [if_neg (not_not.2 signed), if_neg (by omega)]

end

end Sys2Proof.Machine

namespace Sys2Proof.Certificates

open Machine

/-- Settles O47: the checks of `parse` in their order, and the fields of `cartridgeOf` from the header's numbers. -/
theorem loaderParse : Obligations.LoaderParse := by
  intro bs b nes2 prg chr off signed size chrRam
  have header := headerOf_eq bs
  have hprg : (headerOf bs).prgUnits = prg := by rw [header]; rfl
  have hchr : (headerOf bs).chrUnits = chr := by rw [header]; rfl
  have hoff : prgOffset (headerOf bs) = off := by simp [prgOffset, header, off]; rfl
  have hlen : imageLength (headerOf bs) = off + prg * 0x4000 + chr * 0x2000 := by
    rw [imageLength, hoff, hprg, hchr]
  refine ⟨parse_unsigned, parse_short, fun hs hl h0 => ?_, fun hs hl h0 short => ?_, fun hs hl h0 long => ?_⟩
  · rw [parse_header hs hl, hprg, if_pos h0]
  · rw [parse_header hs hl, hprg, hlen, if_neg h0, if_pos short]
  · refine ⟨cartridgeOf (headerOf bs) bs, ?_, congrArg Header.mapperNum header, congrArg Header.submapperId header,
      congrArg Header.mirroring header, congrArg Header.region header, congrArg (· * 0x4000) hprg, fun k hk => ?_,
      fun hc => ?_, fun hc => ⟨romAt bs (off + prg * 0x4000) (chr * 0x2000), ?_, rfl, fun k => sparseRead_romAt bs _⟩,
      ?_, ?_, ?_, ?_⟩
    · rw [parse_header hs hl, hprg, hlen, if_neg h0, if_neg (by omega)]
    · rw [← hoff]
      exact sparseRead_romAt bs _ (hprg ▸ hk)
    · exact if_neg (by omega)
    · rw [← hoff, ← hprg, ← hchr]
      exact if_pos (by omega)
    -- The four RAM sizes.
    all_goals
      simp only [cartridgeOf, prgRamSizes_eq, chrRamSizes_eq, header, decide_eq_true_eq, ramSizeOf_eq, lowNibble_toNat,
        highNibble_toNat]
      rfl

end Sys2Proof.Certificates

namespace Sys2Proof.Machine

/-! ## Banks of a power-of-two board -/

/-- With 2^n banks the mask keeps n bits (21_cartridge_mappers.md R320). -/
theorem and_bankMask_pow (n b : Nat) {unit : Nat} (h : 0 < unit) : b &&& bankMask (2 ^ n * unit) unit = b % 2 ^ n := by
  have fits : unit ≤ 2 ^ n * unit := Nat.le_mul_of_pos_left _ (Nat.two_pow_pos n)
  rw [bankMask, if_pos fits, Nat.mul_div_cancel _ h, Nat.and_two_pow_sub_one_eq_mod]

/-- A bank of 2^j windows in a memory of 2^p such banks (R321). -/
theorem windowBank_pow (p j b : Nat) {i unit : Nat} (h : 0 < unit) (hi : i < 2 ^ j) :
    windowBank (2 ^ (p + j) * unit) unit (2 ^ j) b i = 2 ^ j * (b % 2 ^ p) + i := by
  have size : 2 ^ (p + j) * unit = 2 ^ p * (2 ^ j * unit) := by rw [Nat.pow_add, Nat.mul_assoc]
  have inside : 2 ^ j * (b % 2 ^ p) + i < 2 ^ (p + j) := by
    have : b % 2 ^ p + 1 ≤ 2 ^ p := Nat.mod_lt _ (Nat.two_pow_pos p)
    calc 2 ^ j * (b % 2 ^ p) + i < 2 ^ j * (b % 2 ^ p + 1) := by rw [Nat.mul_succ]; omega
      _ ≤ 2 ^ j * 2 ^ p := Nat.mul_le_mul_left _ this
      _ = 2 ^ (p + j) := by rw [Nat.pow_add, Nat.mul_comm]
  rw [windowBank, and_bankMask_pow _ _ h, size, and_bankMask_pow _ _ (Nat.mul_pos (Nat.two_pow_pos j) h),
    Nat.mul_comm (b % 2 ^ p), Nat.mod_eq_of_lt inside]

theorem shownBanks_pow (p j b : Nat) {unit : Nat} (h : 0 < unit) :
    shownBanks (2 ^ (p + j) * unit) unit (2 ^ j) b = (List.range (2 ^ j)).map (fun i => 2 ^ j * (b % 2 ^ p) + i) :=
  List.map_congr_left fun _ hi => windowBank_pow p j b h (List.mem_range.1 hi)

/-- A mapping of every window. -/
theorem setWindows_all {size win k b : Nat} {m : List Nat} (h : m.length = k) :
    setWindows size win k b 0 m = shownBanks size win k b := by
  rw [setWindows_eq (by omega), Nat.zero_add, List.drop_of_length_le h.le, List.take_zero, List.nil_append, List.append_nil]

/-- A mapping of the first windows. -/
theorem setWindows_first {size win k b : Nat} {m : List Nat} (h : k ≤ m.length) :
    setWindows size win k b 0 m = shownBanks size win k b ++ m.drop k := by
  rw [setWindows_eq (by omega), Nat.zero_add, List.take_zero, List.nil_append]

/-- A mapping of the last windows. -/
theorem setWindows_last {size win k b w : Nat} {m : List Nat} (h : m.length = w + k) :
    setWindows size win k b w m = m.take w ++ shownBanks size win k b := by
  rw [setWindows_eq h.ge, List.drop_of_length_le h.le, List.append_nil]

/-! ## The boards of the one-register mappers: 2^p · 32 KiB of PRG ROM, 2^q · 8 KiB of CHR -/

section
variable {c : Cartridge} {m : Mapper} {p q : Nat}

/-- 32 KiB PRG bank b (R320, R321). -/
theorem mapPrg_32K (size : c.prgRom.size = 2 ^ p * 0x8000) (windows : m.prgMap.length = 4) (b : Nat) :
    (mapPrg c 4 b 0 m).prgMap = [4 * (b % 2 ^ p), 4 * (b % 2 ^ p) + 1, 4 * (b % 2 ^ p) + 2, 4 * (b % 2 ^ p) + 3] := by
  have bytes : c.prgRom.size = 2 ^ (p + 2) * 0x2000 := by rw [size, Nat.pow_add]; omega
  rw [mapPrg_prgMap, setWindows_all windows, bytes]
  exact shownBanks_pow p 2 b (by decide)

/-- 16 KiB PRG bank b in the lower two windows. -/
theorem mapPrg_16K (size : c.prgRom.size = 2 ^ p * 0x8000) (windows : m.prgMap.length = 4) (b : Nat) :
    (mapPrg c 2 b 0 m).prgMap = [2 * (b % 2 ^ (p + 1)), 2 * (b % 2 ^ (p + 1)) + 1] ++ m.prgMap.drop 2 := by
  have bytes : c.prgRom.size = 2 ^ (p + 1 + 1) * 0x2000 := by rw [size, Nat.pow_add, Nat.pow_add]; omega
  rw [mapPrg_prgMap, setWindows_first (by omega), bytes]
  exact congrArg (· ++ _) (shownBanks_pow (p + 1) 1 b (by decide))

/-- 8 KiB CHR bank b. -/
theorem mapChr_8K (size : chrSize c = 2 ^ q * 0x2000) (windows : m.chrMap.length = 8) (b : Nat) :
    (mapChr c 8 b 0 m).chrMap = (List.range 8).map (fun i => 8 * (b % 2 ^ q) + i) := by
  have bytes : chrSize c = 2 ^ (q + 3) * 0x400 := by rw [size, Nat.pow_add]; omega
  rw [mapChr_chrMap, setWindows_all windows, bytes]
  exact shownBanks_pow q 3 b (by decide)

end

/-! ## The registers of the one-register mappers (R330, R350–R355) -/

theorem cpuWrite_mapper_above (s : State) {a : Word} (v : Byte) (h : 0x8000 ≤ a.toNat) :
    (cpuWrite s a v).mapper = mapperWrite s.params s.cart s.mapper a v := by
  rw [cpuWrite_mapper v h]

section
variable (p : Params) (c : Cartridge) {m : Mapper} (a : Word) (v : Byte)

theorem mapperWrite_unrom (h : m.chip = .unrom) : mapperWrite p c m a v = mapPrg c 2 v.toNat 0 m := by
  simp only [mapperWrite, h]

theorem mapperWrite_cnrom (h : m.chip = .cnrom) : mapperWrite p c m a v = mapChr c 8 v.toNat 0 m := by
  simp only [mapperWrite, h]

theorem mapperWrite_aorom (h : m.chip = .aorom) : mapperWrite p c m a v =
    mapPrg c 4 (v.toNat % 8) 0 { m with mirroring := if v.toNat / 16 % 2 = 1 then .single1 else .single0 } := by
  simp only [mapperWrite, h, extractLsb'_toNat_eq, getLsbD_eq_decide, Nat.pow_zero, Nat.div_one, Nat.reducePow,
    decide_eq_true_eq]

theorem mapperWrite_bnrom (h : m.chip = .bnrom) : mapperWrite p c m a v = mapPrg c 4 v.toNat 0 m := by
  simp only [mapperWrite, h]

theorem mapperWrite_colorDreams (h : m.chip = .colorDreams) : mapperWrite p c m a v =
    { mapChr c 8 (v.toNat / 16) 0 (mapPrg c 4 (v.toNat % 4) 0 m) with
      mirroring := match p.colorDreamsMirroring with
        | none => m.mirroring
        | some b => if v.toNat / 2 ^ b.val % 2 = 1 then .single1 else .single0 } := by
  have low : (v.extractLsb' 0 2).toNat = v.toNat % 4 := by rw [extractLsb'_toNat_eq]; omega
  simp only [mapperWrite, h, highNibble_toNat, low, getLsbD_eq_decide, decide_eq_true_eq]
  cases p.colorDreamsMirroring <;> rfl

/-- No chip but NINA-001 has a register in the PRG RAM window. -/
theorem ninaWrite_ne (h : m.chip ≠ .nina001) : ninaWrite c m a v = m := by
  unfold ninaWrite
  split
  · contradiction
  · rfl

/-- NINA-001's three registers (R355). -/
theorem ninaWrite_nina001 (h : m.chip = .nina001) (hp : m.prgMap.length = 4) (hc : m.chrMap.length = 8) :
    ninaWrite c m a v =
      (let chr4 := shownBanks (chrSize c) 0x400 4
       { m with
         prgMap := if a = 0x7FFD then shownBanks c.prgRom.size 0x2000 4 (v.toNat % 2) else m.prgMap
         chrMap := if a = 0x7FFE then chr4 (v.toNat % 16) ++ m.chrMap.drop 4
           else if a = 0x7FFF then m.chrMap.take 4 ++ chr4 (v.toNat % 16)
           else m.chrMap }) := by
  have bit : (v.extractLsb' 0 1).toNat = v.toNat % 2 := by rw [extractLsb'_toNat_eq]; omega
  unfold ninaWrite
  split
  · simp only [bit, lowNibble_toNat, mapPrg, mapChr, setWindows_all hp,
      setWindows_first (show 4 ≤ m.chrMap.length by omega), setWindows_last (w := 4) (k := 4) hc]
    by_cases prg : a = 0x7FFD
    · subst prg
      rfl
    by_cases low : a = 0x7FFE
    · subst low
      rfl
    by_cases high : a = 0x7FFF
    · subst high
      rfl
    · simp only [prg, low, high, ↓reduceIte]
  · contradiction

end

/-- A write to the PRG RAM window stores one byte of PRG RAM, where it is enabled, and then reaches NINA-001 (R323). -/
theorem sparseRead_cpuWrite_prgRam (s : State) {a : Word} (v : Byte) (h : 0x6000 ≤ a.toNat) (h' : a.toNat < 0x8000)
    (k : Nat) :
    sparseRead (cpuWrite s a v).prgRam k =
      if s.mapper.prgRamWE = true ∧ 0 < s.cart.prgRamSize ∧ k = prgRamOffset s.cart s.mapper a.toNat then v
      else sparseRead s.prgRam k := by
  rw [cpuWrite_prgRam v h h']
  by_cases size : 0 < s.cart.prgRamSize
  · simp only [sparseRead_prgRamWrite a v k size, size, true_and]
  · simp only [prgRamWrite, size, false_and, and_false, ↓reduceIte]

end Sys2Proof.Machine

namespace Sys2Proof.Certificates

open Machine

/-- Settles O48: above 0x8000 one mapping per register, of a power-of-two board; below it the store in PRG RAM and NINA-001's
registers. -/
theorem bankRegisters : Obligations.BankRegisters := by
  refine ⟨fun s a v ha chip => ?_, fun s a v p q prg chr hp hc ha => ?_, fun s a v hp hc ha ha' => ?_⟩
  · rw [cpuWrite_mapper v ha]
    rcases chip with chip | chip <;> simp only [mapperWrite, mapperWriteIrq, chip]
  · simp only
    rw [cpuWrite_mapper_above s v ha]
    refine ⟨fun chip => ?_, fun chip => ?_, fun chip => ?_, fun chip => ?_, fun chip => ?_⟩
    · rw [mapperWrite_unrom _ _ _ _ chip, mapPrg_16K prg hp]
      exact ⟨rfl, rfl, rfl, rfl⟩
    · rw [mapperWrite_cnrom _ _ _ _ chip]
      exact ⟨mapChr_8K chr hc _, rfl, rfl⟩
    · rw [mapperWrite_aorom _ _ _ _ chip]
      exact ⟨mapPrg_32K prg hp _, rfl, rfl⟩
    · rw [mapperWrite_bnrom _ _ _ _ chip]
      exact ⟨mapPrg_32K prg hp _, rfl, rfl⟩
    · rw [mapperWrite_colorDreams _ _ _ _ chip]
      refine ⟨mapPrg_32K prg hp _, mapChr_8K chr hc _, fun none => ?_, fun b some => ?_⟩
      · simp only [none]
      · simp only [some]
  · have written : (cpuWrite s a v).mapper = ninaWrite s.cart s.mapper a v := by rw [cpuWrite_prgRam v ha ha']; rfl
    refine ⟨?_, sparseRead_cpuWrite_prgRam s v ha ha', fun chip => ?_, fun chip => ?_⟩
    · rw [cpuWrite_prgRam v ha ha']
      rfl
    · rw [written, ninaWrite_ne _ _ _ chip]
    · rw [written, ninaWrite_nina001 _ _ _ chip hp hc]

end Sys2Proof.Certificates

namespace Sys2Proof.Machine

/-! ## The MMC1's serial port (21_cartridge_mappers.md R341) -/

/-- The shift register after the low bit of a byte has come in at the top. -/
def mmc1ShiftIn (x : BitVec 5) (v : Byte) : BitVec 5 := BitVec.ofNat 5 (x.toNat / 2 + 16 * (v.toNat % 2))

theorem mmc1ShiftIn_toNat (x : BitVec 5) (v : Byte) : (mmc1ShiftIn x v).toNat = x.toNat / 2 + 16 * (v.toNat % 2) := by
  rw [mmc1ShiftIn, BitVec.toNat_ofNat, Nat.mod_eq_of_lt]
  omega

theorem mmc1ShiftIn_eq (x : BitVec 5) (v : Byte) : (x >>> 1) ||| (if v.getLsbD 0 then 0x10 else 0) = mmc1ShiftIn x v := by
  have values : ∀ (x : BitVec 5) (b : Bool),
      (x >>> 1) ||| (if b then 0x10 else 0) = BitVec.ofNat 5 (x.toNat / 2 + 16 * b.toNat) := by
    decide
  have bit : v.toNat % 2 = (v.getLsbD 0).toNat := by
    rw [lowBit_eq]
    rcases Nat.mod_two_eq_zero_or_one v.toNat with h | h <;> rw [h] <;> rfl
  rw [mmc1ShiftIn, bit]
  exact values x _

/-- A full shift value goes to the register that address bits 14:13 select, and the sequence ends. -/
theorem mmc1Load_eq (r : Mmc1) {a : Word} (x : BitVec 5) (h : 0x8000 ≤ a.toNat) :
    { mmc1Load r a x with shift := 0, writesCount := 0 } =
      (let z := { r with shift := 0, writesCount := 0 }
       if a.toNat < 0xA000 then { z with control := x }
       else if a.toNat < 0xC000 then { z with chr0 := x, lastChr := false }
       else if a.toNat < 0xE000 then { z with chr1 := x, lastChr := true }
       else { z with prg := x }) := by
  unfold mmc1Load
  rw [registerSelect_toNat h]
  rcases Nat.lt_or_ge a.toNat 0xA000 with h1 | h1
  · rw [show (a.toNat - 0x8000) / 0x2000 = 0 by omega]
    simp only [h1, ↓reduceIte]
  rcases Nat.lt_or_ge a.toNat 0xC000 with h2 | h2
  · rw [show (a.toNat - 0x8000) / 0x2000 = 1 by omega]
    simp only [h1.not_gt, h2, ↓reduceIte]
  rcases Nat.lt_or_ge a.toNat 0xE000 with h3 | h3
  · rw [show (a.toNat - 0x8000) / 0x2000 = 2 by omega]
    simp only [h1.not_gt, h2.not_gt, h3, ↓reduceIte]
  · rw [show (a.toNat - 0x8000) / 0x2000 = 3 by omega]
    simp only [h1.not_gt, h2.not_gt, h3.not_gt, ↓reduceIte]

theorem mmc1Load_snrom (r : Mmc1) (a : Word) (x : BitVec 5) : (mmc1Load r a x).snrom = r.snrom := by
  unfold mmc1Load
  split <;> rfl

section
variable {s : State} {r : Mmc1} {a : Word} {v : Byte} (chip : s.mapper.chip = .mmc1 r) (ha : 0x8000 ≤ a.toNat)
include chip ha

theorem cpuWrite_mmc1 : (cpuWrite s a v).mapper = mmc1Write s.cart r s.mapper a v := by
  rw [cpuWrite_mapper_above s v ha, mapperWrite, chip]

/-- A write with bit 7 set restarts the sequence. -/
theorem cpuWrite_mmc1_restart (hv : v.getLsbD 7 = true) : (cpuWrite s a v).mapper =
    mmc1Apply s.cart { r with shift := 0, writesCount := 0, control := r.control ||| 0x0C } s.mapper := by
  rw [cpuWrite_mmc1 chip ha, mmc1Write, if_pos hv]

/-- A write that does not complete a sequence only shifts. -/
theorem cpuWrite_mmc1_shift (hv : v.getLsbD 7 = false) (hn : r.writesCount ≠ 4) : (cpuWrite s a v).mapper =
    { s.mapper with chip := .mmc1 { r with shift := mmc1ShiftIn r.shift v, writesCount := r.writesCount + 1 } } := by
  rw [cpuWrite_mmc1 chip ha, mmc1Write, if_neg (Bool.eq_false_iff.1 hv), if_neg (by omega), mmc1ShiftIn_eq]

/-- The fifth write of a sequence loads a register. -/
theorem cpuWrite_mmc1_load (hv : v.getLsbD 7 = false) (hn : r.writesCount = 4) : (cpuWrite s a v).mapper =
    mmc1Apply s.cart { mmc1Load r a (mmc1ShiftIn r.shift v) with shift := 0, writesCount := 0 } s.mapper := by
  rw [cpuWrite_mmc1 chip ha, mmc1Write, if_neg (Bool.eq_false_iff.1 hv), if_pos (by omega), mmc1ShiftIn_eq]

/-- A write that completes or restarts a sequence applies some registers, on the same board. -/
theorem cpuWrite_mmc1_apply (h : v.getLsbD 7 = true ∨ r.writesCount = 4) :
    ∃ q : Mmc1, (cpuWrite s a v).mapper = mmc1Apply s.cart q s.mapper ∧ q.snrom = r.snrom := by
  cases hv : v.getLsbD 7 with
  | true => exact ⟨_, cpuWrite_mmc1_restart chip ha hv, rfl⟩
  | false =>
    have hn : r.writesCount = 4 := h.resolve_left (Bool.eq_false_iff.1 hv)
    exact ⟨_, cpuWrite_mmc1_load chip ha hv hn, mmc1Load_snrom ..⟩

end

/-! ## The MMC1's banking (R342–R345, R348) -/

section
variable (c : Cartridge) (r : Mmc1) (m : Mapper)

@[simp] theorem mmc1PrgRam_chip : (mmc1PrgRam c r m).chip = m.chip := by unfold mmc1PrgRam; split <;> rfl
@[simp] theorem mmc1PrgRam_mirroring : (mmc1PrgRam c r m).mirroring = m.mirroring := by unfold mmc1PrgRam; split <;> rfl
@[simp] theorem mmc1PrgRam_prgMap : (mmc1PrgRam c r m).prgMap = m.prgMap := by unfold mmc1PrgRam; split <;> rfl
@[simp] theorem mmc1PrgRam_chrMap : (mmc1PrgRam c r m).chrMap = m.chrMap := by unfold mmc1PrgRam; split <;> rfl

@[simp] theorem mmc1Prg_chip : (mmc1Prg c r m).chip = m.chip := by unfold mmc1Prg; simp only; split <;> rfl
@[simp] theorem mmc1Chr_chip : (mmc1Chr c r m).chip = m.chip := by unfold mmc1Chr; split <;> rfl

@[simp] theorem mmc1Apply_chip : (mmc1Apply c r m).chip = .mmc1 r := by simp [mmc1Apply]

end

theorem mmc1Mirroring_eq (r : Mmc1) :
    mmc1Mirroring r = [Mirroring.single0, .single1, .vertical, .horizontal].getD (r.control.toNat % 4) .single0 := by
  have bits : (r.control.extractLsb' 0 2).toNat = r.control.toNat % 4 := by rw [extractLsb'_toNat_eq]; omega
  have range : r.control.toNat % 4 < 4 := Nat.mod_lt _ (by decide)
  unfold mmc1Mirroring
  rw [bits]
  generalize r.control.toNat % 4 = k at range ⊢
  interval_cases k <;> rfl

section
variable {c : Cartridge} (r : Mmc1) {m : Mapper} (hp : m.prgMap.length = 4) (hc : m.chrMap.length = 8)
include hp hc

theorem mmc1Apply_mirroring : (mmc1Apply c r m).mirroring = mmc1Mirroring r := by
  rw [mmc1Apply_eq c r hp hc]
  simp only [mmc1PrgRam_mirroring]

theorem mmc1Apply_prgMap : (mmc1Apply c r m).prgMap =
    (let mode := r.control.toNat / 4 % 4
     let prg := shownBanks c.prgRom.size 0x2000
     if mode < 2 then prg 4 (r.prg.toNat / 2 % 8)
     else if mode = 2 then prg 2 0 ++ prg 2 (r.prg.toNat % 16)
     else prg 2 (r.prg.toNat % 16) ++ prg 2 (c.prgRom.size / 0x4000 - 1)) := by
  have mode : (r.control.extractLsb' 2 2).toNat = r.control.toNat / 4 % 4 := extractLsb'_toNat_eq ..
  have bank16 : (r.prg.extractLsb' 0 4).toNat = r.prg.toNat % 16 := by rw [extractLsb'_toNat_eq]; omega
  have bank32 : (r.prg.extractLsb' 1 3).toNat = r.prg.toNat / 2 % 8 := extractLsb'_toNat_eq ..
  have range : r.control.toNat / 4 % 4 < 4 := Nat.mod_lt _ (by decide)
  rw [mmc1Apply_eq c r hp hc]
  simp only [mmc1PrgRam_prgMap, mode, bank16, bank32]
  generalize r.control.toNat / 4 % 4 = k at range ⊢
  interval_cases k <;> rfl

theorem mmc1Apply_chrMap : (mmc1Apply c r m).chrMap =
    (let chr := shownBanks (chrSize c) 0x400
     if r.control.toNat < 16 then chr 8 (r.chr0.toNat / 2) else chr 4 r.chr0.toNat ++ chr 4 r.chr1.toNat) := by
  have bank8 : (r.chr0.extractLsb' 1 4).toNat = r.chr0.toNat / 2 := by rw [extractLsb'_toNat_eq]; omega
  rw [mmc1Apply_eq c r hp hc]
  simp only [mmc1PrgRam_chrMap, bank8, getLsbD_eq_decide, decide_eq_true_eq]
  by_cases small : r.control.toNat < 16
  · rw [if_neg (by omega), if_pos small]
  · rw [if_pos (by omega), if_neg small]

/-- On SNROM the CHR register written last banks and enables PRG RAM (R348). -/
theorem mmc1Apply_prgRam_snrom (snrom : r.snrom = true) :
    (let ram := if r.lastChr then r.chr1 else r.chr0
     (mmc1Apply c r m).prgRamOn = !ram.getLsbD 4 ∧ (mmc1Apply c r m).prgRamWE = !ram.getLsbD 4
     ∧ [(mmc1Apply c r m).prgRamMap] = shownBanks c.prgRamSize 0x2000 1 (ram.toNat / 4 % 4)) := by
  rw [mmc1Apply_eq c r hp hc]
  simp only [mmc1PrgRam, snrom, ↓reduceIte, shownBanks_one, extractLsb'_toNat_eq, Nat.reducePow, and_self]

theorem mmc1Apply_prgRam (snrom : r.snrom = false) : (mmc1Apply c r m).prgRamOn = m.prgRamOn
    ∧ (mmc1Apply c r m).prgRamWE = m.prgRamWE ∧ (mmc1Apply c r m).prgRamMap = m.prgRamMap := by
  rw [mmc1Apply_eq c r hp hc]
  simp only [mmc1PrgRam, snrom, Bool.false_eq_true, ↓reduceIte, and_self]

end

/-- Five writes with bit 7 clear from the start of a sequence. -/
theorem cpuWrite_mmc1_five {s : State} {r : Mmc1} {a₁ a₂ a₃ a₄ a₅ : Word} {v₁ v₂ v₃ v₄ v₅ : Byte}
    (chip : s.mapper.chip = .mmc1 r) (start : r.writesCount = 0) (ha : ∀ a ∈ [a₁, a₂, a₃, a₄, a₅], 0x8000 ≤ a.toNat)
    (hv : ∀ v ∈ [v₁, v₂, v₃, v₄, v₅], v.getLsbD 7 = false) :
    (cpuWrite (cpuWrite (cpuWrite (cpuWrite (cpuWrite s a₁ v₁) a₂ v₂) a₃ v₃) a₄ v₄) a₅ v₅).mapper.chip = .mmc1
      { mmc1Load r a₅ (mmc1ShiftIn (mmc1ShiftIn (mmc1ShiftIn (mmc1ShiftIn (mmc1ShiftIn r.shift v₁) v₂) v₃) v₄) v₅) with
        shift := 0, writesCount := 0 } := by
  simp only [List.forall_mem_cons] at ha hv
  obtain ⟨ha₁, ha₂, ha₃, ha₄, ha₅, -⟩ := ha
  obtain ⟨hv₁, hv₂, hv₃, hv₄, hv₅, -⟩ := hv
  have h₁ := congrArg Mapper.chip (cpuWrite_mmc1_shift chip ha₁ hv₁ (by omega))
  have h₂ := congrArg Mapper.chip (cpuWrite_mmc1_shift h₁ ha₂ hv₂ (by simp [start]))
  have h₃ := congrArg Mapper.chip (cpuWrite_mmc1_shift h₂ ha₃ hv₃ (by simp [start]))
  have h₄ := congrArg Mapper.chip (cpuWrite_mmc1_shift h₃ ha₄ hv₄ (by simp [start]))
  rw [cpuWrite_mmc1_load h₄ ha₅ hv₅ (by simp [start]), mmc1Apply_chip, mmc1Load_eq _ _ ha₅, mmc1Load_eq _ _ ha₅]

end Sys2Proof.Machine

namespace Sys2Proof.Certificates

open Machine

/-- Settles O49: the three kinds of write (`cpuWrite_mmc1_restart`, `_shift`, `_load`), and the banking that `mmc1Apply` leaves. -/
theorem mmc1Serial : Obligations.Mmc1Serial := by
  refine ⟨fun s r a₁ a₂ a₃ a₄ a₅ v₁ v₂ v₃ v₄ v₅ chip start ha hv => ?_, fun s r a v chip ha hv => ?_,
    fun s r a v chip ha hv hn => cpuWrite_mmc1_shift chip ha hv hn, fun s r a v chip hp hc ha h => ?_⟩
  · intro t x z
    have loaded : mmc1ShiftIn (mmc1ShiftIn (mmc1ShiftIn (mmc1ShiftIn (mmc1ShiftIn r.shift v₁) v₂) v₃) v₄) v₅ = x := by
      apply BitVec.eq_of_toNat_eq
      simp only [mmc1ShiftIn_toNat, x, BitVec.toNat_ofNat]
      omega
    exact (cpuWrite_mmc1_five chip start ha hv).trans (by rw [loaded, mmc1Load_eq _ _ (ha a₅ (by simp))])
  · rw [cpuWrite_mmc1_restart chip ha hv, mmc1Apply_chip]
  · obtain ⟨q, applied, snrom⟩ := cpuWrite_mmc1_apply chip ha h
    rw [applied]
    exact ⟨q, mmc1Apply_chip .., snrom, (mmc1Apply_mirroring q hp hc).trans (mmc1Mirroring_eq q), mmc1Apply_prgMap q hp hc,
      mmc1Apply_chrMap q hp hc, mmc1Apply_prgRam_snrom q hp hc, mmc1Apply_prgRam q hp hc⟩

end Sys2Proof.Certificates

namespace Sys2Proof.Machine

/-! ## The MMC3's registers (21_cartridge_mappers.md R361) -/

/-- The registers after a write of v to address n. -/
def mmc3Written (r : Mmc3) (n : Nat) (v : Byte) : Mmc3 :=
  if n < 0xA000 then
    (if n % 2 = 0 then { r with bankSelect := v } else { r with r := r.r.set (r.bankSelect.toNat % 8) v })
  else if n < 0xC000 then r
  else if n < 0xE000 then
    (if n % 2 = 0 then { r with irqLatch := v } else { r with irqCounter := 0, irqReload := true })
  else { r with irqEnabled := decide (n % 2 = 1) }

/-- Below 0xA000 a write rebanks by the registers; above it changes at most the mirroring and PRG RAM's protection. -/
theorem mmc3Write_eq (c : Cartridge) {r : Mmc3} {m : Mapper} (chip : m.chip = .mmc3 r) {a : Word} (v : Byte)
    (ha : 0x8000 ≤ a.toNat) : mmc3Write c r m a v =
      (let n := a.toNat
       if n < 0xA000 then mmc3Apply c (mmc3Written r n v) m
       else { m with
         chip := .mmc3 (mmc3Written r n v)
         mirroring := if n < 0xC000 ∧ n % 2 = 0 ∧ c.mirroring ≠ .fourScreen then
             (if v.getLsbD 0 then .horizontal else .vertical)
           else m.mirroring
         prgRamOn := if n < 0xC000 ∧ n % 2 = 1 then v.getLsbD 7 else m.prgRamOn
         prgRamWE := if n < 0xC000 ∧ n % 2 = 1 then v.getLsbD 7 && !v.getLsbD 6 else m.prgRamWE }) := by
  have register : (r.bankSelect.extractLsb' 0 3).toNat = r.bankSelect.toNat % 8 := by rw [extractLsb'_toNat_eq]; omega
  unfold mmc3Write mmc3Written
  rw [registerSelect_toNat ha, lowBit_eq]
  rcases Nat.lt_or_ge a.toNat 0xA000 with h1 | h1
  · rw [show (a.toNat - 0x8000) / 0x2000 = 0 by omega]
    rcases Nat.mod_two_eq_zero_or_one a.toNat with parity | parity <;> simp [h1, parity, register]
  rcases Nat.lt_or_ge a.toNat 0xC000 with h2 | h2
  · rw [show (a.toNat - 0x8000) / 0x2000 = 1 by omega]
    rcases Nat.mod_two_eq_zero_or_one a.toNat with parity | parity
    · by_cases four : c.mirroring = .fourScreen <;> simp [h1.not_gt, h2, parity, four, ← chip]
    · simp [h1.not_gt, h2, parity, ← chip]
  rcases Nat.lt_or_ge a.toNat 0xE000 with h3 | h3
  · rw [show (a.toNat - 0x8000) / 0x2000 = 2 by omega]
    rcases Nat.mod_two_eq_zero_or_one a.toNat with parity | parity <;> simp [h1.not_gt, h2.not_gt, h3, parity]
  · rw [show (a.toNat - 0x8000) / 0x2000 = 3 by omega]
    rcases Nat.mod_two_eq_zero_or_one a.toNat with parity | parity <;> simp [h1.not_gt, h2.not_gt, h3.not_gt, parity]

theorem flatMap_shownBanks_one (size unit : Nat) (bs : List Nat) :
    bs.flatMap (shownBanks size unit 1) = bs.map (· &&& bankMask size unit) := by
  rw [List.map_eq_flatMap, funext (shownBanks_one size unit)]

/-- The two banks of a 2 KiB pair (R363). -/
theorem byte_pair (x : Byte) : x.toNat &&& 0xFE = x.toNat / 2 * 2 ∧ x.toNat ||| 1 = x.toNat / 2 * 2 + 1 := by
  have bytes : ∀ n : Fin 256, n.val &&& 0xFE = n.val / 2 * 2 ∧ n.val ||| 1 = n.val / 2 * 2 + 1 := by
    decide +kernel
  exact bytes x.toFin

/-- The MMC3's banking (R362, R363), as the banks its windows show. -/
theorem mmc3Apply_shown (c : Cartridge) (q : Mmc3) {m : Mapper} (hp : m.prgMap.length = 4) (hc : m.chrMap.length = 8) :
    mmc3Apply c q m =
      (let bank := fun i => (q.r.getD i 0).toNat
       let l := c.prgRom.size / 0x2000
       let prg := fun bs : List Nat => bs.flatMap (shownBanks c.prgRom.size 0x2000 1)
       let chr := fun bs : List Nat => bs.flatMap (shownBanks (chrSize c) 0x400 1)
       let pairs := [bank 0 / 2 * 2, bank 0 / 2 * 2 + 1, bank 1 / 2 * 2, bank 1 / 2 * 2 + 1]
       let singles := [bank 2, bank 3, bank 4, bank 5]
       { m with
         chip := .mmc3 q
         prgMap := prg (if q.bankSelect.getLsbD 6 then [l - 2, bank 7, bank 6, l - 1] else [bank 6, bank 7, l - 2, l - 1])
         chrMap := chr (if q.bankSelect.getLsbD 7 then singles ++ pairs else pairs ++ singles) }) := by
  rw [mmc3Apply_eq c q hp hc]
  simp only [mmc3R, flatMap_shownBanks_one, byte_pair]

theorem cpuWrite_mmc3 {s : State} {r : Mmc3} {a : Word} (v : Byte) (chip : s.mapper.chip = .mmc3 r) (ha : 0x8000 ≤ a.toNat) :
    (cpuWrite s a v).mapper = mmc3Write s.cart r s.mapper a v := by
  rw [cpuWrite_mapper_above s v ha, mapperWrite, chip]

/-- From 0xC000 up only the chip's registers change. -/
theorem cpuWrite_mmc3_high {s : State} {r : Mmc3} {a : Word} (v : Byte) (chip : s.mapper.chip = .mmc3 r)
    (ha : 0xC000 ≤ a.toNat) : (cpuWrite s a v).mapper = { s.mapper with chip := .mmc3 (mmc3Written r a.toNat v) } := by
  rw [cpuWrite_mmc3 v chip (by omega), mmc3Write_eq s.cart chip v (by omega)]
  simp only [show ¬a.toNat < 0xA000 by omega, show ¬a.toNat < 0xC000 by omega, false_and, ↓reduceIte]

/-- Of the mapper writes only those to 0xE000, even, clear IRQ_MAPPER (R368). -/
theorem cpuWrite_mmc3_irq {s : State} {r : Mmc3} {a : Word} (v : Byte) (chip : s.mapper.chip = .mmc3 r)
    (ha : 0x8000 ≤ a.toNat) : (cpuWrite s a v).pending.irqMapper =
      (s.pending.irqMapper && !(decide (0xE000 ≤ a.toNat) && decide (a.toNat % 2 = 0))) := by
  have select : a.extractLsb' 13 2 = 3 ↔ 0xE000 ≤ a.toNat := by
    rw [← BitVec.toNat_inj, registerSelect_toNat ha]
    show (a.toNat - 0x8000) / 0x2000 = 3 ↔ _
    omega
  have parity : a.getLsbD 0 = false ↔ a.toNat % 2 = 0 := by
    rw [lowBit_eq, decide_eq_false_iff_not]
    omega
  rw [cpuWrite_mapper v ha]
  simp only [mapperWriteIrq, chip, select, parity]
  by_cases clears : 0xE000 ≤ a.toNat ∧ a.toNat % 2 = 0
  · rw [if_pos clears]
    simp [clears]
  · rw [if_neg clears, ← Bool.decide_and, decide_eq_false clears, Bool.not_false, Bool.and_true]

/-! ## The scanline counter (R366, R367) -/

theorem mmc3Tick_iterate_kept (q : Mmc3) (k : Nat) :
    (mmc3Tick^[k] q).irqLatch = q.irqLatch ∧ (mmc3Tick^[k] q).irqEnabled = q.irqEnabled := by
  induction k with
  | zero => exact ⟨rfl, rfl⟩
  | succ k ih =>
    rw [Function.iterate_succ_apply']
    unfold mmc3Tick
    split <;> exact ih

theorem mapperTick_iterate {m : Mapper} {q : Mmc3} (chip : m.chip = .mmc3 q) (k : Nat) :
    (mapperTick^[k] m).chip = .mmc3 (mmc3Tick^[k] q) := by
  induction k with
  | zero => exact chip
  | succ k ih =>
    rw [Function.iterate_succ_apply', Function.iterate_succ_apply', mapperTick]
    simp only [ih]

/-- The tick after k ticks asserts the IRQ where it leaves the counter at 0. -/
theorem mapperTickIrq_iterate {m : Mapper} {q : Mmc3} (chip : m.chip = .mmc3 q) (enabled : q.irqEnabled = true) (k : Nat) :
    mapperTickIrq (mapperTick^[k] m) = decide ((mmc3Tick^[k + 1] q).irqCounter = 0) := by
  simp only [mapperTickIrq, mapperTick_iterate chip, (mmc3Tick_iterate_kept q k).2, enabled, Bool.and_true,
    Function.iterate_succ_apply']

/-- With the reload standing, the counter is the latch after the first tick and one less after each tick until it is 0. -/
theorem mmc3Tick_countdown {q : Mmc3} (reload : q.irqReload = true) (k : Nat) (h : k ≤ q.irqLatch.toNat) :
    (mmc3Tick^[k + 1] q).irqCounter.toNat = q.irqLatch.toNat - k ∧ (mmc3Tick^[k + 1] q).irqReload = false := by
  induction k with
  | zero =>
    rw [Nat.zero_add, Function.iterate_one, mmc3Tick, if_pos (.inr reload)]
    exact ⟨rfl, rfl⟩
  | succ k ih =>
    obtain ⟨counter, standing⟩ := ih (by omega)
    have counting : (mmc3Tick^[k + 1] q).irqCounter ≠ 0 := fun zero => by
      rw [zero] at counter
      exact absurd counter.symm (Nat.sub_ne_zero_of_lt h)
    rw [Function.iterate_succ_apply', mmc3Tick, if_neg (not_or.2 ⟨counting, Bool.eq_false_iff.1 standing⟩)]
    refine ⟨?_, standing⟩
    show ((mmc3Tick^[k + 1] q).irqCounter - 1).toNat = _
    rw [BitVec.toNat_sub_of_le (by bv_omega), counter]
    rfl

/-- With a latch of 0 the counter stays 0. -/
theorem mmc3Tick_latch_zero {q : Mmc3} (latch : q.irqLatch = 0) (counter : q.irqCounter = 0) (k : Nat) :
    (mmc3Tick^[k] q).irqCounter = 0 := by
  induction k with
  | zero => exact counter
  | succ k ih =>
    rw [Function.iterate_succ_apply', mmc3Tick, if_pos (.inl ih)]
    exact (mmc3Tick_iterate_kept q k).1.trans latch

end Sys2Proof.Machine

namespace Sys2Proof.Certificates

open Machine

/-- Settles O50: the counter's countdown (`mmc3Tick_countdown`), the one write that clears the IRQ, and the registers with the
banking that `mmc3Apply` leaves. -/
theorem mmc3Counter : Obligations.Mmc3Counter := by
  refine ⟨fun s r n w chip enabled => ?_, fun s r a v chip ha => cpuWrite_mmc3_irq v chip ha,
    fun s r a v chip hp hc ha => ?_⟩
  · intro m
    have latched := congrArg Mapper.chip (cpuWrite_mmc3_high (a := 0xC000) n chip (by decide))
    have armed : m.chip = .mmc3 { r with irqLatch := n, irqCounter := 0, irqReload := true } :=
      congrArg Mapper.chip (cpuWrite_mmc3_high (a := 0xC001) w latched (by decide))
    refine ⟨fun k hk => ?_, fun zero k => ?_⟩
    · rw [mapperTickIrq_iterate armed enabled]
      have counter := (mmc3Tick_countdown (q := { r with irqLatch := n, irqCounter := 0, irqReload := true }) rfl k hk).1
      rw [decide_eq_decide, ← BitVec.toNat_inj, counter]
      show n.toNat - k = 0 ↔ k = n.toNat
      omega
    · rw [mapperTickIrq_iterate armed enabled]
      exact decide_eq_true (mmc3Tick_latch_zero zero rfl (k + 1))
  · intro n q bank l prg chr pairs singles
    rw [cpuWrite_mmc3 v chip ha, mmc3Write_eq s.cart chip v ha]
    rcases Nat.lt_or_ge n 0xA000 with low | high
    · rw [if_pos (show a.toNat < 0xA000 from low), mmc3Apply_shown s.cart _ hp hc]
      simp only [low, low.not_ge, false_and, ↓reduceIte]
      rfl
    · rw [if_neg (show ¬a.toNat < 0xA000 from high.not_gt)]
      simp only [high, high.not_gt, true_and, ↓reduceIte]
      rfl

end Sys2Proof.Certificates

namespace Sys2Proof

open Machine

/-! ## The cell of an instruction (30_encoding.md R400, R404, R405) -/

/-- `i` is an instruction of the map's cell `c` at the opcode byte `op`, and every instruction of that cell is encoded as `op`
and its own operand bytes. -/
inductive OpcodeCell.Holds (op : Byte) : OpcodeCell → Instr → Prop where
  | one {i : Instr} (enc : encode i = [op]) : Holds op (.one i) i
  | two {f : Byte → Instr} (enc : ∀ b, encode (f b) = [op, b]) (b : Byte) : Holds op (.two f) (f b)
  | three {f : Word → Instr} (enc : ∀ a, encode (f a) = [op, loByte a, hiByte a]) (a : Word) : Holds op (.three f) (f a)

/-- The map holds every instruction in the cell of its opcode. The opcode is made a numeral first: the map's arithmetic does not
reduce on a term with an operand variable in it. -/
theorem opcodeCell_holds (i : Instr) : (opcodeCell i.opcode).Holds i.opcode i := by
  cases i <;> dsimp only [Instr.opcode] <;> constructor
  all_goals intros; rfl

/-- Every opcode byte is the opcode of an instruction (R407). -/
theorem instrOf_opcode (op : Byte) : (instrOf op 0 0).opcode = op := by
  cases op with
  | ofFin n =>
    revert n
    decide +kernel

theorem opcodeCell_holds_instrOf (op : Byte) : (opcodeCell op).Holds op (instrOf op 0 0) := by
  have holds := opcodeCell_holds (instrOf op 0 0)
  rwa [instrOf_opcode] at holds

/-! ## Decoding by cells -/

theorem decode_one {op : Byte} {i : Instr} (cell : opcodeCell op = .one i) (rest : List Byte) :
    decode (op :: rest) = .ok (i, rest) := by
  simp only [decode, cell]

theorem decode_two {op : Byte} {f : Byte → Instr} (cell : opcodeCell op = .two f) (b : Byte) (rest : List Byte) :
    decode (op :: b :: rest) = .ok (f b, rest) := by
  simp only [decode, cell]

theorem decode_three {op : Byte} {f : Word → Instr} (cell : opcodeCell op = .three f) (l h : Byte) (rest : List Byte) :
    decode (op :: l :: h :: rest) = .ok (f (wordOf l h), rest) := by
  simp only [decode, cell]

theorem decode_encode_append (i : Instr) (rest : List Byte) : decode (encode i ++ rest) = .ok (i, rest) := by
  have holds := opcodeCell_holds i
  generalize cell : opcodeCell i.opcode = c at holds
  cases holds with
  | one enc =>
    rw [enc]
    exact decode_one cell rest
  | two enc b =>
    rw [enc]
    exact decode_two cell b rest
  | three enc a =>
    have word := decode_three cell (loByte a) (hiByte a) rest
    rw [wordOf_bytes] at word
    rw [enc]
    exact word

/-- Decoding fails on a list that ends before the instruction does. -/
theorem length_of_decode_ok {op : Byte} {tail : List Byte} {r : Instr × List Byte} (ok : decode (op :: tail) = .ok r) :
    opcodeLength op ≤ tail.length + 1 := by
  simp only [decode] at ok
  split at ok
  case h_4 | h_5 => cases ok
  all_goals simp [opcodeLength, *]

/-- A list with all the bytes that its opcode byte asks for begins with an instruction's encoding. -/
theorem exists_encode_append_drop {op : Byte} {tail : List Byte} (enough : opcodeLength op ≤ tail.length + 1) :
    ∃ i, encode i ++ tail.drop (opcodeLength op - 1) = op :: tail := by
  have holds := opcodeCell_holds_instrOf op
  unfold opcodeLength at enough ⊢
  generalize opcodeCell op = c, instrOf op 0 0 = j at *
  cases holds with
  | one enc => exact ⟨j, by rw [enc]; rfl⟩
  | @two f enc =>
    obtain _ | ⟨b, rest⟩ := tail
    · simp at enough
    · exact ⟨f b, by rw [enc]; rfl⟩
  | @three f enc =>
    obtain _ | ⟨l, _ | ⟨h, rest⟩⟩ := tail
    · simp at enough
    · simp at enough
    · exact ⟨f (wordOf l h), by rw [enc, loByte_wordOf, hiByte_wordOf]; rfl⟩

/-! ## What the opcode byte alone tells -/

theorem mnemonic_instrOf (i : Instr) : (instrOf i.opcode 0 0).mnemonic = i.mnemonic := by
  cases i <;> dsimp only [Instr.opcode] <;> rfl

theorem undocumented_instrOf (i : Instr) : (instrOf i.opcode 0 0).undocumented = i.undocumented := by
  simp only [Instr.undocumented, mnemonic_instrOf, instrOf_opcode]

end Sys2Proof

namespace Sys2Proof.Certificates

/-- Settles O1: the map holds the instruction in its opcode's cell (`opcodeCell_holds`), and decoding reads that cell. -/
theorem decodeEncode : Obligations.DecodeEncode := decode_encode_append

/-- Settles O2: a list that decodes begins with some instruction's encoding, and decoding gives that instruction (O1). -/
theorem encodeDecode : Obligations.EncodeDecode := by
  intro bs i rest ok
  cases bs with
  | nil => cases ok
  | cons op tail =>
    obtain ⟨j, split⟩ := exists_encode_append_drop (length_of_decode_ok ok)
    rw [← split, decode_encode_append] at ok
    cases ok
    exact split

/-- Settles O3: a list that is long enough begins with the encoding of an instruction of that opcode; whether an instruction is
undocumented depends on its opcode byte alone, and the 256 bytes are compared with the rule's list. -/
theorem opcodeMap : Obligations.OpcodeMap := by
  refine ⟨fun op rest enough => ?_, fun i => ?_⟩
  · obtain ⟨i, split⟩ := exists_encode_append_drop enough
    exact ⟨i, by rw [← split, decode_encode_append], (List.cons.inj split).1⟩
  · rw [← undocumented_instrOf]
    generalize i.opcode = op
    cases op with
    | ofFin n =>
      revert n
      decide +kernel

/-- Settles O4: decoding evaluates on the seventeen words. -/
theorem decodeWords : Obligations.DecodeWords :=
  ⟨rfl, rfl, rfl, rfl, rfl, rfl, rfl, rfl, rfl, rfl, rfl, rfl, rfl, rfl, rfl, rfl, rfl⟩

end Sys2Proof.Certificates

namespace Sys2Proof.Machine

/-! ## Indexed addresses in exact arithmetic (41_addressing_load_store.md R505–R511) -/

theorem loByte_toNat (a : Word) : (loByte a).toNat = a.toNat % 256 := by
  rw [loByte, extractLsb'_toNat_eq]
  omega

theorem hiByte_toNat (a : Word) : (hiByte a).toNat = a.toNat / 256 := by
  rw [hiByte, extractLsb'_toNat_eq]
  omega

theorem hiByte_eq_iff (a b : Word) : hiByte a = hiByte b ↔ a.toNat / 256 = b.toNat / 256 := by
  rw [← BitVec.toNat_inj, hiByte_toNat, hiByte_toNat]

/-- The index addition crosses where the page number changes (R508). -/
theorem crosses_eq (a b : Word) : crosses a b = decide (a.toNat / 256 ≠ b.toNat / 256) := by
  simp only [crosses, ne_eq, hiByte_eq_iff]

theorem toNat_add_index (base : Word) (x : Byte) : (base + x.setWidth 16).toNat = (base.toNat + x.toNat) % 2 ^ 16 := by
  rw [BitVec.toNat_add, BitVec.toNat_setWidth_of_le (by decide)]

theorem toNat_succ_byte (z : Byte) : (z + 1).toNat = (z.toNat + 1) % 2 ^ 8 := BitVec.toNat_add z 1

/-! ## Operands (41_addressing_load_store.md R514) -/

theorem readOperand_mem (ea : Addressing) (s : State) :
    readOperand (.mem ea) s = cycleRead (addressOf .read ea s).2 (effectiveAddress ea s) := by
  rw [readOperand, addressOf_fst]

theorem readOperand_fst (src : Source) (s : State) : (readOperand src s).1 = operandByte src s := by
  cases src with
  | imm m => rfl
  | mem ea => rw [readOperand_mem]; rfl

theorem operandByte_memByte {ea : Addressing} {s : State} {b : Byte} (h : memByte s (effectiveAddress ea s) = some b) :
    operandByte (.mem ea) s = b := by
  rw [← readOperand_fst, readOperand_memByte h]

theorem rmwBus_memByte {ea : Addressing} {s : State} {b : Byte} (h : memByte s (effectiveAddress ea s) = some b) :
    (rmwBus ea s).1 = b :=
  cpuRead_fst (((addressOf_same .rmw ea s).memByte _).trans h)

theorem two_lt_rmwCycles (ea : Addressing) : 2 < rmwCycles ea := by
  unfold rmwCycles
  split <;> decide

/-- All cycles of a read-modify-write but the last, in which it writes (70_reset_and_hazards.md R1136). -/
theorem rmwBus_cycles (ea : Addressing) (s : State) : (rmwBus ea s).2.cycles + 1 = s.cycles + rmwCycles ea := by
  have address := addressOf_cycles .rmw ea s
  have enough := two_lt_rmwCycles ea
  simp only [rmwBus, dummyWrite_cycles, cycleRead_cycles]
  simp only at address
  omega

/-! ## How the shapes of instructions complete -/

/-- A read instruction completes with the registers f makes of the operand, if f passes PC on. -/
theorem readOp_completes {i : Instr} {f : Cpu → Byte → Cpu} {src : Source} {s : State}
    (run : exec i s = .next (readOp f src s)) (hpc : ∀ c m pc, f { c with pc := pc } m = { f c m with pc := pc }) :
    ReadCompletes i src s (f s.cpu (operandByte src s)) :=
  ⟨_, run, by rw [readOp, readOperand_fst, readOperand_cpu, hpc], readOperand_cycles src s⟩

/-- The byte just written to RAM stands there. -/
theorem memByte_cycleWrite_ram (s : State) {a : Word} (v : Byte) (h : a.toNat < 0x2000) :
    memByte (cycleWrite s a v) a = some v := by
  simp only [memByte, h, ↓reduceIte, (cycleWrite_ram v h).1, sparseRead_write_same]

/-- A store completes with the byte f takes from the registers. -/
theorem storeOp_completes {i : Instr} {f : Cpu → Byte} {ea : Addressing} {s : State}
    (run : exec i s = .next (storeOp f ea s)) : StoreCompletes i ea s (f s.cpu) := by
  have written : storeOp f ea s = cycleWrite (addressOf .write ea s).2 (effectiveAddress ea s) (f s.cpu) := by
    rw [storeOp, addressOf_fst]
  refine ⟨_, run, written, ?_, ?_, fun h => ?_⟩
  · rw [written, cycleWrite_cpu, addressOf_cpu]
  · rw [written, cycleWrite_cycles, addressOf_cycles]
  · rw [written, memByte_cycleWrite_ram _ _ h]

/-! ## The documented loads and stores -/

/-- A load's effect on the registers, by its mnemonic (R520–R522). -/
def loadEffect : Mnemonic → Option (Cpu → Byte → Cpu)
  | .lda => some loadA
  | .ldx => some loadX
  | .ldy => some loadY
  | _ => none

/-- The register a store writes, by its mnemonic (R523–R525). -/
def storedRegister : Mnemonic → Option (Cpu → Byte)
  | .sta => some Cpu.a
  | .stx => some Cpu.x
  | .sty => some Cpu.y
  | _ => none

theorem exec_load {i : Instr} {f : Cpu → Byte → Cpu} {src : Source} (s : State) (hf : loadEffect i.mnemonic = some f)
    (hsrc : i.source = some src) : exec i s = .next (readOp f src s) := by
  cases i <;> cases hf <;> obtain rfl := Option.some.inj hsrc <;> rfl

theorem exec_store {i : Instr} {f : Cpu → Byte} {ea : Addressing} (s : State) (hf : storedRegister i.mnemonic = some f)
    (hea : i.addressing = some ea) : exec i s = .next (storeOp f ea s) := by
  cases i <;> cases hf <;> obtain rfl := Option.some.inj hea <;> rfl

/-! ## The mode of an instruction, by its opcode byte alone (30_encoding.md R405) -/

theorem source_instrOf (i : Instr) : (instrOf i.opcode 0 0).source.map sourceMode = i.source.map sourceMode := by
  cases i <;> dsimp only [Instr.opcode] <;> rfl

theorem addressing_instrOf (i : Instr) : (instrOf i.opcode 0 0).addressing.map modeOf = i.addressing.map modeOf := by
  cases i <;> dsimp only [Instr.opcode] <;> rfl

/-- A list with the mode and the opcode byte of every source form of a mnemonic holds those of each of its instructions. -/
theorem sourceForm_mem {i : Instr} {src : Source} {m : Mnemonic} {forms : List (Mode × Byte)}
    (hsrc : i.source = some src) (hm : i.mnemonic = m)
    (table : ∀ op : Byte, (instrOf op 0 0).mnemonic = m →
      ∀ mode ∈ (instrOf op 0 0).source.map sourceMode, (mode, op) ∈ forms) : (sourceMode src, i.opcode) ∈ forms :=
  table i.opcode ((mnemonic_instrOf i).trans hm) (sourceMode src) (by rw [source_instrOf, hsrc]; rfl)

/-- The same of the forms with an effective address. -/
theorem addressingForm_mem {i : Instr} {ea : Addressing} {m : Mnemonic} {forms : List (Mode × Byte)}
    (hea : i.addressing = some ea) (hm : i.mnemonic = m)
    (table : ∀ op : Byte, (instrOf op 0 0).mnemonic = m →
      ∀ mode ∈ (instrOf op 0 0).addressing.map modeOf, (mode, op) ∈ forms) : (modeOf ea, i.opcode) ∈ forms :=
  table i.opcode ((mnemonic_instrOf i).trans hm) (modeOf ea) (by rw [addressing_instrOf, hea]; rfl)

end Sys2Proof.Machine

namespace Sys2Proof.Certificates

open Machine

/-- Settles O18: every mode's address is `effectiveAddress` (`addressOf_fst`), whose sums wrap as those of `BitVec` do. -/
theorem effectiveAddresses : Obligations.EffectiveAddresses := by
  intro acc s
  have address := fun m => addressOf_fst acc m s
  refine ⟨fun z => ?_, fun z => ?_, fun z => ?_, fun a => address (.abs a), fun a => ?_, fun a => ?_, fun z p hp => ?_,
    fun z base hbase => ?_, fun m => ⟨address m, addressOf_cpu acc m s, addressOf_same acc m s⟩⟩
  · rw [address, effectiveAddress, zeroPage_toNat]
  · rw [address, effectiveAddress, zeroPage_toNat, BitVec.toNat_add]
  · rw [address, effectiveAddress, zeroPage_toNat, BitVec.toNat_add]
  · rw [address]
    exact ⟨toNat_add_index a _, crosses_eq a _⟩
  · rw [address]
    exact ⟨toNat_add_index a _, crosses_eq a _⟩
  · rw [address, effectiveAddress, wordOf_toNat, toNat_succ_byte, BitVec.toNat_add, ← hp]
    exact ⟨by omega, rfl⟩
  · have pointer : base = (wordOf (sparseRead s.ram z.toNat) (sparseRead s.ram (z + 1).toNat)).toNat := by
      rw [hbase, wordOf_toNat, toNat_succ_byte]
      omega
    rw [address, pointer]
    exact ⟨toNat_add_index _ _, crosses_eq _ _⟩

/-- Settles O19: a memory operand is one read at the effective address (`readOperand_mem`), and the cycles of each access are
those of its address and one more for each of its own. -/
theorem operandRead : Obligations.OperandRead := by
  intro s
  exact ⟨fun m => ⟨rfl, readOperand_cycles (.imm m) s⟩,
    fun ea => ⟨readOperand_mem ea s, readOperand_fst (.mem ea) s,
      fun b hb => ⟨operandByte_memByte hb, rmwBus_memByte hb⟩, readOperand_cycles (.mem ea) s,
      addressOf_cycles .write ea s, rmwBus_cycles ea s⟩⟩

/-- Settles O20: each load is a read instruction with the effect of its mnemonic (`exec_load`). -/
theorem loadResult : Obligations.LoadResult := by
  intro i src s hsrc m
  have completes {f : Cpu → Byte → Cpu} (hf : loadEffect i.mnemonic = some f)
      (hpc : ∀ c m pc, f { c with pc := pc } m = { f c m with pc := pc }) : ReadCompletes i src s (f s.cpu m) :=
    readOp_completes (exec_load s hf hsrc) hpc
  refine ⟨fun hm => ⟨sourceForm_mem hsrc hm (by decide +kernel), ?_⟩,
    fun hm => ⟨sourceForm_mem hsrc hm (by decide +kernel), ?_⟩, fun hm => ⟨sourceForm_mem hsrc hm (by decide +kernel), ?_⟩⟩
  · exact completes (f := loadA) (by rw [hm]; rfl) fun _ _ _ => rfl
  · exact completes (f := loadX) (by rw [hm]; rfl) fun _ _ _ => rfl
  · exact completes (f := loadY) (by rw [hm]; rfl) fun _ _ _ => rfl

/-- Settles O21: each store is a store of the register of its mnemonic (`exec_store`). -/
theorem storeResult : Obligations.StoreResult := by
  intro i ea s hea
  have completes {f : Cpu → Byte} (hf : storedRegister i.mnemonic = some f) : StoreCompletes i ea s (f s.cpu) :=
    storeOp_completes (exec_store s hf hea)
  refine ⟨fun hm => ⟨addressingForm_mem hea hm (by decide +kernel), ?_⟩,
    fun hm => ⟨addressingForm_mem hea hm (by decide +kernel), ?_⟩,
    fun hm => ⟨addressingForm_mem hea hm (by decide +kernel), ?_⟩⟩
  · exact completes (f := Cpu.a) (by rw [hm]; rfl)
  · exact completes (f := Cpu.x) (by rw [hm]; rfl)
  · exact completes (f := Cpu.y) (by rw [hm]; rfl)

end Sys2Proof.Certificates

namespace Sys2Proof.Machine

/-! ## Branches (45_control.md R650) -/

section
variable {cond : Cpu → Bool} {s : State} (off : Byte)

theorem branch_not_taken (h : cond (fetchN 2 s).cpu = false) : branch cond off s = fetchN 2 s := by
  simp only [branch, h, Bool.false_eq_true, ↓reduceIte]

theorem branch_taken_cpu (h : cond (fetchN 2 s).cpu = true) :
    (branch cond off s).cpu = { s.cpu with pc := branchTarget (s.cpu.pc + 2) off } := by
  simp only [branch, h, ↓reduceIte, State.setPc_cpu]
  split <;> simp only [dummyRead_cpu, fetchN_cpu] <;> rfl

theorem branch_taken_cycles (h : cond (fetchN 2 s).cpu = true) : (branch cond off s).cycles =
    s.cycles + (if crosses (s.cpu.pc + 2) (branchTarget (s.cpu.pc + 2) off) then 4 else 3) := by
  have hpc : (fetchN 2 s).cpu.pc = s.cpu.pc + 2 := by rw [fetchN_cpu]; rfl
  simp only [branch, h, ↓reduceIte, State.setPc_cycles, hpc]
  split <;> simp only [dummyRead_cycles, fetchN_cycles]

end

/-- A branch whose condition reads only flags completes. -/
theorem branch_completes {i : Instr} {off : Byte} {s : State} (cond : Cpu → Bool)
    (run : exec i s = .next (branch cond off s)) (hpc : ∀ pc, cond { s.cpu with pc := pc } = cond s.cpu) :
    BranchCompletes i off (cond s.cpu) s := by
  have flags : cond (fetchN 2 s).cpu = cond s.cpu := by rw [fetchN_cpu, hpc]
  cases taken : cond s.cpu with
  | false =>
    have fetches : branch cond off s = fetchN 2 s := branch_not_taken off (flags.trans taken)
    exact ⟨_, run, by rw [fetches, fetchN_cpu]; rfl, branch_same cond off s, by rw [fetches, fetchN_cycles]; rfl⟩
  | true =>
    refine ⟨_, run, branch_taken_cpu off (flags.trans taken), branch_same cond off s, ?_⟩
    rw [branch_taken_cycles off (flags.trans taken), crosses_eq, if_pos rfl]
    simp only [decide_eq_true_eq, ne_eq, ite_not]
    rfl

/-! ## Jumps and subroutines (45_control.md R659–R662) -/

theorem bugHigh_eq (a : Word) : bugHigh a = BitVec.ofNat 16 (256 * (a.toNat / 256) + (a.toNat + 1) % 256) := by
  apply BitVec.eq_of_toNat_eq
  rw [bugHigh, wordOf_toNat, toNat_succ_byte, hiByte_toNat, loByte_toNat, BitVec.toNat_ofNat]
  omega

/-- The indirect jump's two reads, whose high byte's address wraps in the page (R660). -/
theorem jumpIndirect_word (a : Word) (s : State) : ∃ l h, (jumpIndirect a s).cpu = { s.cpu with pc := wordOf l h }
    ∧ (∀ b, memByte s a = some b → l = b) ∧ (∀ b, memByte s (bugHigh a) = some b → h = b) := by
  have fetched : SameMemory s (fetchN 3 s) := fetchN_same 3 s
  refine ⟨(cycleRead (fetchN 3 s) a).1, (cycleRead (cycleRead (fetchN 3 s) a).2 (bugHigh a)).1, ?_,
    fun _ hb => cpuRead_fst ((fetched.memByte a).trans hb),
    fun _ hb => cpuRead_fst (((fetched.trans (cycleRead_same _ a)).memByte _).trans hb)⟩
  rw [jumpIndirect, State.setPc_cpu, cycleRead_cpu, cycleRead_cpu, fetchN_cpu]

/-- The two cells that a pushed PC fills. -/
theorem sparseRead_pushPc (s : State) (k : Nat) : sparseRead (pushPc s).ram k =
    if k = stackCell s.cpu.s then hiByte s.cpu.pc else if k = stackCell (s.cpu.s - 1) then loByte s.cpu.pc
    else sparseRead s.ram k := by
  have cells : stackCell s.cpu.s ≠ stackCell (s.cpu.s - 1) := by unfold stackCell; bv_omega
  rw [pushPc_ram, sparseRead_write, sparseRead_write]
  by_cases high : k = stackCell s.cpu.s
  · rw [if_neg (high ▸ cells), if_pos high, if_pos high]
  · rw [if_neg high, if_neg high]

/-- The state in which JSR fetches the high byte of its target: PC at that byte, whose address has been pushed (R661). -/
def jsrPushed (s : State) : State := pushPc (dummyRead (fetchN 2 s) (stackAddr (fetchN 2 s).cpu))

theorem jumpSubroutine_eq (a : Word) (s : State) : jumpSubroutine a s =
    (cycleRead (jsrPushed s) (jsrPushed s).cpu.pc).2.setPc
      (wordOf (loByte a) (cycleRead (jsrPushed s) (jsrPushed s).cpu.pc).1) := rfl

theorem jsrPushed_cpu (s : State) : (jsrPushed s).cpu = { s.cpu with s := s.cpu.s - 2, pc := s.cpu.pc + 2 } := by
  rw [jsrPushed, pushPc_cpu, dummyRead_cpu, fetchN_cpu]; rfl

theorem jsrPushed_same (s : State) : SameButRam s (jsrPushed s) :=
  ((fetchN_same 2 s).trans (dummyRead_same _ _)).butRam.trans (pushPc_same _)

theorem jsrPushed_cycles (s : State) : (jsrPushed s).cycles = s.cycles + 5 := by
  simp only [jsrPushed, pushPc_cycles, dummyRead_cycles, fetchN_cycles]

theorem sparseRead_jsrPushed (s : State) (k : Nat) : sparseRead (jsrPushed s).ram k =
    if k = stackCell s.cpu.s then hiByte (s.cpu.pc + 2) else if k = stackCell (s.cpu.s - 1) then loByte (s.cpu.pc + 2)
    else sparseRead s.ram k := by
  rw [jsrPushed, sparseRead_pushPc, dummyRead_cpu, fetchN_cpu, ((fetchN_same 2 s).trans (dummyRead_same _ _)).ram]
  rfl

theorem jumpSubroutine_after (a : Word) (s : State) : SameMemory (jsrPushed s) (jumpSubroutine a s) :=
  (cycleRead_same _ _).setCpu _

theorem jumpSubroutine_cycles (a : Word) (s : State) : (jumpSubroutine a s).cycles = s.cycles + 6 := by
  rw [jumpSubroutine_eq, State.setPc_cycles, cycleRead_cycles, jsrPushed_cycles]

/-- JSR's target: its low byte as decoded, its high byte as read after the pushes (R661). -/
theorem jumpSubroutine_word (a : Word) (s : State) : ∃ h,
    (jumpSubroutine a s).cpu = { s.cpu with s := s.cpu.s - 2, pc := wordOf (loByte a) h }
    ∧ ∀ b, memByte (jumpSubroutine a s) (s.cpu.pc + 2) = some b → h = b := by
  refine ⟨(cycleRead (jsrPushed s) (s.cpu.pc + 2)).1, ?_,
    fun _ hb => cpuRead_fst (((jumpSubroutine_after a s).memByte _).symm.trans hb)⟩
  rw [jumpSubroutine_eq, State.setPc_cpu, cycleRead_cpu, jsrPushed_cpu]

/-- The state in which RTS pulls its return address: after its opcode fetch and two dummy reads (R662). -/
def rtsPulling (s : State) : State :=
  let t := dummyRead (fetch s) (fetch s).cpu.pc
  dummyRead t (stackAddr t.cpu)

theorem returnSubroutine_eq (s : State) : returnSubroutine s =
    (let l := pull (rtsPulling s)
     let h := pull l.2
     (dummyRead h.2 (wordOf l.1 h.1)).setPc (wordOf l.1 h.1 + 1)) := rfl

theorem rtsPulling_same (s : State) : SameMemory s (rtsPulling s) :=
  ((fetch_same s).trans (dummyRead_same _ _)).trans (dummyRead_same _ _)

theorem rtsPulling_cpu (s : State) : (rtsPulling s).cpu = { s.cpu with pc := s.cpu.pc + 1 } := by
  rw [rtsPulling, dummyRead_cpu, dummyRead_cpu, fetch_cpu]

theorem rtsPulling_cycles (s : State) : (rtsPulling s).cycles = s.cycles + 3 := by
  rw [rtsPulling, dummyRead_cycles, dummyRead_cycles, fetch_cycles]

/-- RTS resumes one byte after the address that it pulls (R662). -/
theorem returnSubroutine_cpu (s : State) : (returnSubroutine s).cpu = { s.cpu with
    s := s.cpu.s + 2
    pc := wordOf (sparseRead s.ram (stackCell (s.cpu.s + 1))) (sparseRead s.ram (stackCell (s.cpu.s + 2))) + 1 } := by
  have hs : s.cpu.s + 1 + 1 = s.cpu.s + 2 := BitVec.add_assoc ..
  simp only [returnSubroutine_eq, State.setPc_cpu, dummyRead_cpu, pull_cpu, pull_fst, (pull_same _).ram, rtsPulling_cpu,
    (rtsPulling_same s).ram, hs]

theorem returnSubroutine_cycles (s : State) : (returnSubroutine s).cycles = s.cycles + 6 := by
  simp only [returnSubroutine_eq, State.setPc_cycles, dummyRead_cycles, pull_cycles, rtsPulling_cycles]

end Sys2Proof.Machine

namespace Sys2Proof.Certificates

open Machine

/-- Settles O29: a taken branch ends at its target and a branch not taken after its fetches (`branch_completes`). -/
theorem branchResult : Obligations.BranchResult := by
  intro off s
  exact ⟨branch_completes (fun c => !c.c) rfl fun _ => rfl, branch_completes (fun c => c.c) rfl fun _ => rfl,
    branch_completes (fun c => c.z) rfl fun _ => rfl, branch_completes (fun c => !c.z) rfl fun _ => rfl,
    branch_completes (fun c => c.n) rfl fun _ => rfl, branch_completes (fun c => !c.n) rfl fun _ => rfl,
    branch_completes (fun c => !c.v) rfl fun _ => rfl, branch_completes (fun c => c.v) rfl fun _ => rfl, rfl⟩

/-- Settles O30: the word JMP reads at its pointer (`jumpIndirect_word`), JSR as what it pushes and one read after it
(`jsrPushed`), and RTS as two pulls (`returnSubroutine_cpu`). -/
theorem jumpResult : Obligations.JumpResult := by
  intro s a
  refine ⟨⟨_, rfl, ?_, jumpTo_same a s, ?_⟩, ?_, ?_,
    ⟨_, rfl, returnSubroutine_cpu s, returnSubroutine_same s, returnSubroutine_cycles s⟩, rfl⟩
  · rw [jumpTo, State.setPc_cpu, fetchN_cpu]
  · rw [jumpTo, State.setPc_cycles, fetchN_cycles]
  · obtain ⟨l, h, cpu, low, high⟩ := jumpIndirect_word a s
    rw [bugHigh_eq] at high
    refine ⟨_, l, h, rfl, cpu, jumpIndirect_same a s, ?_, low, high⟩
    simp only [jumpIndirect, State.setPc_cycles, cycleRead_cycles, fetchN_cycles]
  · obtain ⟨h, cpu, high⟩ := jumpSubroutine_word a s
    have after := jumpSubroutine_after a s
    refine ⟨_, h, rfl, cpu, fun k => ?_, high, (jsrPushed_same s).trans after.butRam, jumpSubroutine_cycles a s⟩
    rw [after.ram, sparseRead_jsrPushed]

end Sys2Proof.Certificates

namespace Sys2Proof.Machine

/-! ## Instructions without an operand (42_transfer_stack.md R550–R555, 43_arithmetic.md R587–R591) -/

/-- An instruction without an operand completes with the registers f makes, if f passes PC on. -/
theorem impliedOp_completes {i : Instr} {f : Cpu → Cpu} {s : State} (run : exec i s = .next (impliedOp f s))
    (hpc : ∀ c pc, f { c with pc := pc } = { f c with pc := pc }) : Completes i s 1 2 (f s.cpu) := by
  refine ⟨_, run, ?_, impliedOp_same f s, ?_⟩
  · rw [impliedOp, State.setCpu_cpu, dummyRead_cpu, fetch_cpu]
    exact hpc s.cpu _
  · rw [impliedOp, State.setCpu_cycles, dummyRead_cycles, fetch_cycles]

/-! ## One push and one pull (42_transfer_stack.md R556–R559) -/

/-- P as PHP pushes it, with bits 5 and 4 set. -/
theorem packP_true (c : Cpu) : packP true c = BitVec.ofBool c.n ++ BitVec.ofBool c.v ++ (0b11#2) ++ BitVec.ofBool c.d
    ++ BitVec.ofBool c.i ++ BitVec.ofBool c.z ++ BitVec.ofBool c.c := by
  have ones : ∀ x : BitVec 2, x ++ BitVec.ofBool true ++ BitVec.ofBool true = x ++ 0b11#2 := by decide
  rw [packP, ones]

theorem pushOp_cpu (f : Cpu → Byte) (s : State) :
    (pushOp f s).cpu = { s.cpu with pc := s.cpu.pc + 1, s := s.cpu.s - 1 } := by
  rw [pushOp, push_cpu, dummyRead_cpu, fetch_cpu]

theorem pushOp_cycles (f : Cpu → Byte) (s : State) : (pushOp f s).cycles = s.cycles + 3 := by
  rw [pushOp, push_cycles, dummyRead_cycles, fetch_cycles]

theorem sparseRead_pushOp (f : Cpu → Byte) (s : State) (k : Nat) :
    sparseRead (pushOp f s).ram k = if k = stackCell s.cpu.s then f s.cpu else sparseRead s.ram k := by
  rw [pushOp, push_ram, sparseRead_write, dummyRead_cpu, fetch_cpu, ((fetch_same s).trans (dummyRead_same _ _)).ram]

theorem pullOp_cpu (f : Cpu → Byte → Cpu) (s : State) : (pullOp f s).cpu =
    f { s.cpu with pc := s.cpu.pc + 1, s := s.cpu.s + 1 } (sparseRead s.ram (stackCell (s.cpu.s + 1))) := by
  simp only [pullOp, State.setCpu_cpu, pull_cpu, pull_fst, dummyRead_cpu, fetch_cpu, (dummyRead_same _ _).ram,
    (fetch_same s).ram]

theorem pullOp_cycles (f : Cpu → Byte → Cpu) (s : State) : (pullOp f s).cycles = s.cycles + 4 := by
  rw [pullOp, State.setCpu_cycles, pull_cycles, dummyRead_cycles, dummyRead_cycles, fetch_cycles]

/-- A pull completes with the registers f makes of the byte above S. -/
theorem pullOp_completes {i : Instr} {f : Cpu → Byte → Cpu} {s : State} (run : exec i s = .next (pullOp f s))
    (hpc : ∀ c m pc, f { c with pc := pc } m = { f c m with pc := pc }) :
    Completes i s 1 4 (f { s.cpu with s := s.cpu.s + 1 } (sparseRead s.ram (stackCell (s.cpu.s + 1)))) :=
  ⟨_, run, (pullOp_cpu f s).trans (hpc { s.cpu with s := s.cpu.s + 1 } _ _), pullOp_same f s, pullOp_cycles f s⟩

/-! ## What a return pulls (46_system.md R681, 60_exceptions.md R815, R816) -/

theorem stackCell_ne {p q : Byte} (h : p ≠ q) : stackCell p ≠ stackCell q := by
  unfold stackCell
  bv_omega

/-- The status byte brings every flag back, whichever B it carries (00_scope.md R17). -/
theorem unpackP_packP (b : Bool) (c d : Cpu) :
    unpackP c (packP b d) = { c with n := d.n, v := d.v, d := d.d, i := d.i, z := d.z, c := d.c } := by
  have bits : ∀ b n v d i z c : Bool,
      let p : Byte := BitVec.ofBool n ++ BitVec.ofBool v ++ BitVec.ofBool true ++ BitVec.ofBool b ++ BitVec.ofBool d
        ++ BitVec.ofBool i ++ BitVec.ofBool z ++ BitVec.ofBool c
      p.getLsbD 7 = n ∧ p.getLsbD 6 = v ∧ p.getLsbD 3 = d ∧ p.getLsbD 2 = i ∧ p.getLsbD 1 = z ∧ p.getLsbD 0 = c := by
    decide
  obtain ⟨hn, hv, hd, hi, hz, hc⟩ := bits b d.n d.v d.d d.i d.z d.c
  simp only [unpackP, packP, hn, hv, hd, hi, hz, hc]

/-- RTI takes P from the first byte above S and PC from the next two. -/
theorem returnOp_cpu (s : State) : (returnOp s).cpu =
    { unpackP s.cpu (sparseRead s.ram (stackCell (s.cpu.s + 1))) with
      s := s.cpu.s + 3
      pc := wordOf (sparseRead s.ram (stackCell (s.cpu.s + 2))) (sparseRead s.ram (stackCell (s.cpu.s + 3))) } := by
  have h2 : s.cpu.s + 1 + 1 = s.cpu.s + 2 := BitVec.add_assoc ..
  have h3 : s.cpu.s + 2 + 1 = s.cpu.s + 3 := BitVec.add_assoc ..
  simp only [returnOp, returnFromInterrupt, State.setPc_cpu, State.setCpu_cpu, State.setCpu_ram, pull_cpu, pull_fst,
    (pull_same _).ram, dummyRead_cpu, fetch_cpu, (dummyRead_same _ _).ram, (fetch_same s).ram, unpackP_s, h2, h3]
  rfl

/-- BRK's two fetches are its first two cycles, so that it returns behind its signature byte (R680). -/
theorem softwareInterrupt_entered (s : State) :
    ∃ l h, Entered true (s.cpu.pc + 2) l h s (softwareInterrupt s)
      ∧ (∀ x, memByte s 0xFFFE = some x → l = x) ∧ (∀ x, memByte s 0xFFFF = some x → h = x) := by
  have hcpu : (fetchN 2 s).cpu = { s.cpu with pc := s.cpu.pc + 2 } := fetchN_cpu 2 s
  have key := enter_entered true (v := 0xFFFE) (by decide) (by decide) (fetchN_same 2 s) (by rw [hcpu]) (fetchN_cycles 2 s)
  rwa [hcpu] at key

/-- RTI directly after an entry brings back every register and flag, and PC from where the entry kept it. -/
theorem returnOp_cpu_of_entered {b : Bool} {ret : Word} {l h : Byte} {s t : State} (entered : Entered b ret l h s t) :
    (returnOp t).cpu = { s.cpu with pc := ret } := by
  obtain ⟨cpu, ram, -, -⟩ := entered
  have hs : t.cpu.s = s.cpu.s - 3 := congrArg Cpu.s cpu
  have s1 : t.cpu.s + 1 = s.cpu.s - 2 := by bv_omega
  have s2 : t.cpu.s + 2 = s.cpu.s - 1 := by bv_omega
  have s3 : t.cpu.s + 3 = s.cpu.s := by bv_omega
  have h20 : stackCell (s.cpu.s - 2) ≠ stackCell s.cpu.s := stackCell_ne (by bv_omega)
  have h21 : stackCell (s.cpu.s - 2) ≠ stackCell (s.cpu.s - 1) := stackCell_ne (by bv_omega)
  have h10 : stackCell (s.cpu.s - 1) ≠ stackCell s.cpu.s := stackCell_ne (by bv_omega)
  rw [returnOp_cpu, s1, s2, s3]
  simp only [ram, h20, h21, h10, ↓reduceIte, unpackP_packP, wordOf_bytes]
  rw [cpu]

/-- RTS directly after JSR resumes at the instruction after it (45_control.md R661, R662). -/
theorem returnSubroutine_jumpSubroutine_cpu (a : Word) (s : State) :
    (returnSubroutine (jumpSubroutine a s)).cpu = { s.cpu with pc := s.cpu.pc + 3 } := by
  obtain ⟨h, cpu, -⟩ := jumpSubroutine_word a s
  have s1 : s.cpu.s - 2 + 1 = s.cpu.s - 1 := by bv_omega
  have s2 : s.cpu.s - 2 + 2 = s.cpu.s := BitVec.sub_add_cancel ..
  have cells : stackCell (s.cpu.s - 1) ≠ stackCell s.cpu.s := stackCell_ne (by bv_omega)
  have hpc : s.cpu.pc + 2 + 1 = s.cpu.pc + 3 := BitVec.add_assoc ..
  simp only [returnSubroutine_cpu, (jumpSubroutine_after a s).ram, cpu, s1, s2, sparseRead_jsrPushed, cells, ↓reduceIte,
    wordOf_bytes, hpc]

/-- PLP directly after a push of P gives the flags back (42_transfer_stack.md R560). -/
theorem pullOp_pushOp_cpu (b : Bool) (s : State) :
    (pullOp unpackP (pushOp (packP b) s)).cpu = { s.cpu with pc := s.cpu.pc + 2 } := by
  have hs : s.cpu.s - 1 + 1 = s.cpu.s := BitVec.sub_add_cancel ..
  have hpc : s.cpu.pc + 1 + 1 = s.cpu.pc + 2 := BitVec.add_assoc ..
  simp only [pullOp_cpu, pushOp_cpu, sparseRead_pushOp, hs, hpc, ↓reduceIte, unpackP_packP]

end Sys2Proof.Machine

namespace Sys2Proof.Certificates

open Machine

/-- Settles O14: RTI undoes what any entry leaves (`returnOp_cpu_of_entered`), RTS what JSR does
(`returnSubroutine_jumpSubroutine_cpu`), and PLP what PHP does (`pullOp_pushOp_cpu`). -/
theorem returnsResume : Obligations.ReturnsResume := by
  intro s
  refine ⟨fun sig => ?_, ?_, ?_, fun a => ?_, ?_⟩
  · obtain ⟨l, h, entered, -⟩ := softwareInterrupt_entered s
    exact ⟨_, _, rfl, rfl, returnOp_cpu_of_entered entered⟩
  · let z : State := { s with pending := { s.pending with nmi := false } }
    obtain ⟨l, h, entered, -⟩ := interruptEntry_entered (v := 0xFFFA) z (by decide) (by decide)
    have resumed : (returnOp (nmiEntry s)).cpu = z.cpu := returnOp_cpu_of_entered (s := z) entered
    exact ⟨_, rfl, resumed⟩
  · obtain ⟨l, h, entered, -⟩ := interruptEntry_entered (v := 0xFFFE) s (by decide) (by decide)
    exact ⟨_, rfl, returnOp_cpu_of_entered entered⟩
  · exact ⟨_, _, rfl, rfl, returnSubroutine_jumpSubroutine_cpu a s⟩
  · exact ⟨_, _, rfl, rfl, pullOp_pushOp_cpu true s⟩

/-- Settles O22: each is an instruction without an operand, whose function of the registers passes PC on
(`impliedOp_completes`). -/
theorem transferResult : Obligations.TransferResult := by
  intro s c
  exact ⟨impliedOp_completes (f := fun c => loadX c c.a) rfl fun _ _ => rfl,
    impliedOp_completes (f := fun c => loadY c c.a) rfl fun _ _ => rfl,
    impliedOp_completes (f := fun c => loadA c c.x) rfl fun _ _ => rfl,
    impliedOp_completes (f := fun c => loadA c c.y) rfl fun _ _ => rfl,
    impliedOp_completes (f := fun c => loadX c c.s) rfl fun _ _ => rfl,
    impliedOp_completes (f := fun c => { c with s := c.x }) rfl fun _ _ => rfl,
    impliedOp_completes (f := fun c => loadX c (c.x + 1)) rfl fun _ _ => rfl,
    impliedOp_completes (f := fun c => loadY c (c.y + 1)) rfl fun _ _ => rfl,
    impliedOp_completes (f := fun c => loadX c (c.x - 1)) rfl fun _ _ => rfl,
    impliedOp_completes (f := fun c => loadY c (c.y - 1)) rfl fun _ _ => rfl, rfl⟩

/-- Settles O23: a push fills the cell that S names (`sparseRead_pushOp`), and a pull takes the byte of the cell above S
(`pullOp_completes`). -/
theorem pushPull : Obligations.PushPull := by
  refine ⟨fun i v s hpush => ?_, fun s => ⟨pullOp_completes (f := loadA) rfl fun _ _ _ => rfl,
    pullOp_completes (f := unpackP) rfl fun _ _ _ => rfl⟩, rfl⟩
  obtain ⟨f, run, value⟩ : ∃ f, exec i s = .next (pushOp f s) ∧ v = f s.cpu := by
    obtain ⟨rfl, rfl⟩ | ⟨rfl, rfl⟩ := hpush
    · exact ⟨Cpu.a, rfl, rfl⟩
    · exact ⟨packP true, rfl, (packP_true s.cpu).symm⟩
  subst value
  exact ⟨_, run, pushOp_cpu f s, sparseRead_pushOp f s, (pushOp_memoryBy f s).memory, pushOp_cycles f s⟩

end Sys2Proof.Certificates

namespace Sys2Proof.Machine

/-! ## Read instructions and read-modify-write instructions -/

/-- The documented read instructions but for the loads: the arithmetic, the comparisons (43_arithmetic.md R581–R585) and the
logic (44_logic_shift.md R620–R623). -/
def combinesOperand : Mnemonic → Bool
  | .adc | .sbc | .cmp | .cpx | .cpy | .and | .ora | .eor | .bit => true
  | _ => false

/-- Such an instruction hands its operand to the effect of its mnemonic; being no shift, it has no accumulator form. -/
theorem exec_combine {i : Instr} {src : Source} (s : State) (hi : combinesOperand i.mnemonic = true)
    (hsrc : i.source = some src) : exec i s = .next (readOp (registerEffect false i.mnemonic) src s) := by
  cases i <;> cases hi <;> obtain rfl := Option.some.inj hsrc <;> rfl

theorem registerEffect_pc_of_combines {n : Mnemonic} (hn : combinesOperand n = true) (c : Cpu) (m : Byte) (pc : Word) :
    registerEffect false n { c with pc := pc } m = { registerEffect false n c m with pc := pc } := by
  cases n <;> cases hn <;> rfl

/-- Such an instruction completes with its mnemonic's effect of the operand. -/
theorem combine_completes {i : Instr} {src : Source} {n : Mnemonic} (s : State) (hn : combinesOperand n = true)
    (hi : i.mnemonic = n) (hsrc : i.source = some src) :
    ReadCompletes i src s (registerEffect false n s.cpu (operandByte src s)) := by
  subst hi
  exact readOp_completes (exec_combine s hn hsrc) (registerEffect_pc_of_combines hn)

/-- The byte and the registers of a documented read-modify-write instruction on memory, by its mnemonic (43_arithmetic.md R586,
R589, 44_logic_shift.md R624–R627). -/
def rmwEffect : Mnemonic → Option (Cpu → Byte → Byte × Cpu)
  | .inc => some incByte
  | .dec => some decByte
  | .asl => some (shiftFlags aslByte)
  | .lsr => some (shiftFlags lsrByte)
  | .rol => some (shiftFlags rolByte)
  | .ror => some (shiftFlags rorByte)
  | _ => none

theorem exec_rmw {i : Instr} {f : Cpu → Byte → Byte × Cpu} {ea : Addressing} (s : State)
    (hf : rmwEffect i.mnemonic = some f) (hea : i.addressing = some ea) : exec i s = .next (rmwOp f ea s) := by
  cases i <;> cases hf <;> cases hea <;> rfl

theorem rmwBus_cpu (ea : Addressing) (s : State) :
    (rmwBus ea s).2.cpu = { s.cpu with pc := s.cpu.pc + BitVec.ofNat 16 (addressingBytes ea) } := by
  rw [rmwBus, dummyWrite_cpu, cycleRead_cpu, addressOf_cpu]

/-- After the accesses of `rmwBus`, f's registers are taken and its byte is written in the last cycle (R1136). -/
theorem rmwOp_eq (f : Cpu → Byte → Byte × Cpu) (ea : Addressing) (s : State) :
    rmwOp f ea s = cycleWrite ((rmwBus ea s).2.setCpu (f (rmwBus ea s).2.cpu (rmwBus ea s).1).2) (effectiveAddress ea s)
      (f (rmwBus ea s).2.cpu (rmwBus ea s).1).1 := by
  rw [rmwOp, addressOf_fst]
  rfl

/-- A read-modify-write instruction completes with the byte and the registers f makes of the byte read, if f passes PC on. -/
theorem rmwOp_completes {i : Instr} {f : Cpu → Byte → Byte × Cpu} {ea : Addressing} {s : State}
    (run : exec i s = .next (rmwOp f ea s))
    (hpc : ∀ c m pc, f { c with pc := pc } m = ((f c m).1, { (f c m).2 with pc := pc })) :
    RmwCompletes i ea s (f s.cpu (rmwBus ea s).1).1 (f s.cpu (rmwBus ea s).1).2 := by
  have written := rmwOp_eq f ea s
  rw [rmwBus_cpu, hpc] at written
  refine ⟨_, run, written, ?_, fun h => ?_⟩
  · rw [written, cycleWrite_cycles, State.setCpu_cycles, rmwBus_cycles]
  · rw [written, memByte_cycleWrite_ram _ _ h]

theorem rmwEffect_pc {n : Mnemonic} {f : Cpu → Byte → Byte × Cpu} (hf : rmwEffect n = some f) (c : Cpu) (m : Byte)
    (pc : Word) : f { c with pc := pc } m = ((f c m).1, { (f c m).2 with pc := pc }) := by
  cases n <;> cases hf <;> rfl

/-- A documented read-modify-write instruction on memory completes with its mnemonic's effect of the byte read. -/
theorem rmw_completes {i : Instr} {n : Mnemonic} {f : Cpu → Byte → Byte × Cpu} {ea : Addressing} (s : State)
    (hf : rmwEffect n = some f) (hi : i.mnemonic = n) (hea : i.addressing = some ea) :
    RmwCompletes i ea s (f s.cpu (rmwBus ea s).1).1 (f s.cpu (rmwBus ea s).1).2 := by
  subst hi
  exact rmwOp_completes (exec_rmw s hf hea) (rmwEffect_pc hf)

/-! ## The adder in exact arithmetic (43_arithmetic.md R580, R582) -/

theorem carryNat_le_one (c : Cpu) : carryNat c ≤ 1 := by
  unfold carryNat
  split <;> decide

/-- Bit 7 is the sign. -/
theorem getLsbD_seven (b : Byte) : b.getLsbD 7 = decide (128 ≤ b.toNat) :=
  (BitVec.msb_eq_getLsbD_last b).symm.trans (BitVec.msb_eq_decide b)

theorem toInt_byte (b : Byte) : b.toInt = if 128 ≤ b.toNat then (b.toNat : Int) - 256 else b.toNat := by
  rw [BitVec.toInt_eq_toNat_cond]
  split <;> split <;> omega

/-- The adder's V (R580): A and M are of one sign and the result r is not. -/
theorem signOverflow_iff (a m r : Byte) : (~~~(a ^^^ m) &&& (a ^^^ r)).getLsbD 7 = true ↔
    (128 ≤ a.toNat ↔ 128 ≤ m.toNat) ∧ ¬(128 ≤ a.toNat ↔ 128 ≤ r.toNat) := by
  have bits : (~~~(a ^^^ m) &&& (a ^^^ r)).getLsbD 7 =
      (!(a.getLsbD 7 ^^ m.getLsbD 7) && (a.getLsbD 7 ^^ r.getLsbD 7)) := by
    simp only [BitVec.getLsbD_and, BitVec.getLsbD_not, BitVec.getLsbD_xor, show 7 < 8 by decide, decide_true, Bool.true_and]
  rw [bits, getLsbD_seven, getLsbD_seven, getLsbD_seven]
  simp

/-- Of a sum with carry in, V says that the signed sum is out of range. -/
theorem signOverflow_sum (a m : Byte) {k : Nat} (hk : k ≤ 1) :
    (~~~(a ^^^ m) &&& (a ^^^ BitVec.ofNat 8 (a.toNat + m.toNat + k))).getLsbD 7
      = decide (a.toInt + m.toInt + k < -128 ∨ 127 < a.toInt + m.toInt + k) := by
  have ha := a.isLt
  have hm := m.isLt
  rw [Bool.eq_iff_iff, signOverflow_iff, decide_eq_true_eq, BitVec.toNat_ofNat, toInt_byte, toInt_byte]
  split <;> split <;> omega

/-- The adder: r and C from the exact unsigned sum, V from the exact signed one. -/
theorem addC_eq (c : Cpu) (m : Byte) :
    addC c m =
      let sum := c.a.toNat + m.toNat + carryNat c
      let signed := c.a.toInt + m.toInt + carryNat c
      let r : Byte := BitVec.ofNat 8 sum
      { c with
        a := r, n := r.getLsbD 7, z := decide (r = 0), c := decide (256 ≤ sum),
        v := decide (signed < -128 ∨ 127 < signed) } := by
  rw [addC, signOverflow_sum _ _ (carryNat_le_one c)]
  rfl

/-- The subtractor adds ~M, of unsigned value 255 − M and signed value −1 − M: its sums are the exact differences, the
unsigned one raised by 256 (R582). -/
theorem subC_eq (c : Cpu) (m : Byte) :
    subC c m =
      let diff := (c.a.toNat : Int) - m.toNat - (1 - carryNat c)
      let signed := c.a.toInt - m.toInt - (1 - carryNat c)
      let r : Byte := BitVec.ofInt 8 diff
      { c with
        a := r, n := r.getLsbD 7, z := decide (r = 0), c := decide (0 ≤ diff),
        v := decide (signed < -128 ∨ 127 < signed) } := by
  have hm := m.isLt
  have unsigned : ((c.a.toNat + (~~~m).toNat + carryNat c : Nat) : Int)
      = (c.a.toNat : Int) - m.toNat - (1 - carryNat c) + 256 := by
    rw [BitVec.toNat_not]
    omega
  have signed : c.a.toInt + (~~~m).toInt + carryNat c = c.a.toInt - m.toInt - (1 - carryNat c) := by
    rw [toInt_byte m, toInt_byte (~~~m), BitVec.toNat_not]
    omega
  have result : BitVec.ofNat 8 (c.a.toNat + (~~~m).toNat + carryNat c)
      = BitVec.ofInt 8 ((c.a.toNat : Int) - m.toNat - (1 - carryNat c)) := by
    rw [← BitVec.ofInt_natCast, unsigned, BitVec.ofInt_add]
    exact BitVec.add_zero _
  have borrow : 256 ≤ c.a.toNat + (~~~m).toNat + carryNat c ↔ 0 ≤ (c.a.toNat : Int) - m.toNat - (1 - carryNat c) := by
    omega
  rw [subC, addC_eq]
  simp only [result, signed, borrow]

/-- The comparator: its difference is 0 where the bytes are equal (R592). -/
theorem compare_eq (c : Cpu) (r m : Byte) :
    compare c r m = { c with c := decide (m.toNat ≤ r.toNat), z := decide (r = m), n := (r - m).getLsbD 7 } := by
  simp only [compare, setNZ, sub_eq_zero]

end Sys2Proof.Machine

namespace Sys2Proof.Certificates

open Machine

/-- Settles O24: ADC's effect is the adder and SBC's the subtractor, each in exact arithmetic (`addC_eq`, `subC_eq`). -/
theorem addSubtract : Obligations.AddSubtract := by
  intro i src s hsrc m a
  refine ⟨fun hi => ⟨sourceForm_mem hsrc hi (by decide +kernel), ?_⟩,
    fun hi => ⟨sourceForm_mem hsrc hi (by decide +kernel), ?_⟩⟩
  · exact addC_eq s.cpu m ▸ combine_completes s rfl hi hsrc
  · exact subC_eq s.cpu m ▸ combine_completes s rfl hi hsrc

/-- Settles O25: each comparison's effect is the comparator on its register (`compare_eq`). -/
theorem compareResult : Obligations.CompareResult := by
  intro i src s hsrc m flags
  have compared (r : Byte) : flags r = compare s.cpu r m := (compare_eq s.cpu r m).symm
  refine ⟨fun hi => ⟨sourceForm_mem hsrc hi (by decide +kernel), ?_⟩,
    fun hi => ⟨sourceForm_mem hsrc hi (by decide +kernel), ?_⟩,
    fun hi => ⟨sourceForm_mem hsrc hi (by decide +kernel), ?_⟩⟩
  · exact compared s.cpu.a ▸ combine_completes s rfl hi hsrc
  · exact compared s.cpu.x ▸ combine_completes s rfl hi hsrc
  · exact compared s.cpu.y ▸ combine_completes s rfl hi hsrc

/-- Settles O26: each completes with the byte and the flags of its mnemonic's effect (`rmw_completes`). -/
theorem incrementMemory : Obligations.IncrementMemory := by
  intro i ea s hea m
  refine ⟨fun hi => ⟨addressingForm_mem hea hi (by decide +kernel), ?_⟩,
    fun hi => ⟨addressingForm_mem hea hi (by decide +kernel), ?_⟩⟩
  · exact rmw_completes (f := incByte) s rfl hi hea
  · exact rmw_completes (f := decByte) s rfl hi hea

end Sys2Proof.Certificates

namespace Sys2Proof.Machine

/-! ## Shifts and rotates in exact arithmetic (44_logic_shift.md R624–R627) -/

theorem shiftLeft_one_eq_ofNat (m : Byte) : m <<< 1 = BitVec.ofNat 8 (2 * m.toNat) := by
  rw [← BitVec.toNat_inj, BitVec.toNat_shiftLeft, BitVec.toNat_ofNat, Nat.shiftLeft_eq, Nat.pow_one, Nat.mul_comm]

theorem shiftRight_one_eq_ofNat (m : Byte) : m >>> 1 = BitVec.ofNat 8 (m.toNat / 2) := by
  have inByte : m.toNat / 2 < 2 ^ 8 := by omega
  rw [← BitVec.toNat_inj, BitVec.toNat_ushiftRight, BitVec.toNat_ofNat, Nat.mod_eq_of_lt inByte, Nat.shiftRight_eq_div_pow,
    Nat.pow_one]

theorem aslByte_eq (ci : Bool) (m : Byte) : aslByte ci m = (BitVec.ofNat 8 (2 * m.toNat), m.getLsbD 7) := by
  rw [aslByte, shiftLeft_one_eq_ofNat]

theorem lsrByte_eq (ci : Bool) (m : Byte) : lsrByte ci m = (BitVec.ofNat 8 (m.toNat / 2), m.getLsbD 0) := by
  rw [lsrByte, shiftRight_one_eq_ofNat]

/-- The carry comes into bit 0, which the doubling leaves 0: the OR there is a sum. -/
theorem rolByte_eq (c : Cpu) (m : Byte) :
    rolByte c.c m = (BitVec.ofNat 8 (2 * m.toNat + carryNat c), m.getLsbD 7) := by
  have disjoint : 2 * m.toNat + carryNat c = 2 * m.toNat ||| carryNat c :=
    Nat.two_pow_add_eq_or_of_lt (i := 1) (Nat.lt_succ_of_le (carryNat_le_one c)) m.toNat
  have carry : (if c.c then 1 else 0 : Byte) = BitVec.ofNat 8 (carryNat c) := by
    cases h : c.c <;> simp [carryNat, h]
  rw [rolByte, shiftLeft_one_eq_ofNat, carry, disjoint, BitVec.ofNat_or]

/-- The carry comes into bit 7, above half a byte: the OR there is a sum. -/
theorem rorByte_eq (c : Cpu) (m : Byte) :
    rorByte c.c m = (BitVec.ofNat 8 (128 * carryNat c + m.toNat / 2), m.getLsbD 0) := by
  have half : m.toNat / 2 < 2 ^ 7 := by omega
  have disjoint : 128 * carryNat c + m.toNat / 2 = 128 * carryNat c ||| m.toNat / 2 :=
    Nat.two_pow_add_eq_or_of_lt half (carryNat c)
  have carry : (if c.c then 0x80 else 0 : Byte) = BitVec.ofNat 8 (128 * carryNat c) := by
    cases h : c.c <;> simp [carryNat, h]
  rw [rorByte, shiftRight_one_eq_ofNat, carry, disjoint, BitVec.ofNat_or, BitVec.or_comm]

/-! ## How the shifts and rotates complete -/

/-- The flags of a shift with result byte and carry out `q`. -/
def flagsOfShift (c : Cpu) (q : Byte × Bool) : Cpu := { c with c := q.2, n := q.1.getLsbD 7, z := decide (q.1 = 0) }

theorem shiftFlags_eq (f : Bool → Byte → Byte × Bool) (c : Cpu) (m : Byte) :
    shiftFlags f c m = ((f c.c m).1, flagsOfShift c (f c.c m)) := rfl

/-- The accumulator form puts the shift's result in A. -/
theorem shiftAcc_completes {i : Instr} {f : Bool → Byte → Byte × Bool} {q : Byte × Bool} {s : State}
    (run : exec i s = .next (impliedOp (shiftAcc f) s)) (value : f s.cpu.c s.cpu.a = q) :
    Completes i s 1 2 { flagsOfShift s.cpu q with a := q.1 } := by
  subst value
  exact impliedOp_completes run fun _ _ => rfl

/-- The memory form writes the shift's result back. -/
theorem shiftMem_completes {i : Instr} {n : Mnemonic} {f : Bool → Byte → Byte × Bool} {ea : Addressing} {q : Byte × Bool}
    {s : State} (hf : rmwEffect n = some (shiftFlags f)) (hi : i.mnemonic = n) (hea : i.addressing = some ea)
    (value : f s.cpu.c (rmwBus ea s).1 = q) : RmwCompletes i ea s q.1 (flagsOfShift s.cpu q) := by
  have completes := rmw_completes s hf hi hea
  rwa [shiftFlags_eq, value] at completes

end Sys2Proof.Machine

namespace Sys2Proof.Certificates

open Machine

/-- Settles O27: each of the four hands its operand to the effect of its mnemonic (`combine_completes`). -/
theorem logicResult : Obligations.LogicResult := by
  intro i src s hsrc m into
  refine ⟨fun hi => ⟨sourceForm_mem hsrc hi (by decide +kernel), ?_⟩,
    fun hi => ⟨sourceForm_mem hsrc hi (by decide +kernel), ?_⟩,
    fun hi => ⟨sourceForm_mem hsrc hi (by decide +kernel), ?_⟩,
    fun hi => ⟨sourceForm_mem hsrc hi (by decide +kernel), ?_⟩⟩
  · exact combine_completes (n := .and) s rfl hi hsrc
  · exact combine_completes (n := .ora) s rfl hi hsrc
  · exact combine_completes (n := .eor) s rfl hi hsrc
  · exact combine_completes (n := .bit) s rfl hi hsrc

/-- Settles O28: both forms complete with the byte and the carry out of their shift (`shiftAcc_completes`,
`shiftMem_completes`), each in exact arithmetic (`aslByte_eq` to `rorByte_eq`). -/
theorem shiftRotate : Obligations.ShiftRotate := by
  intro s ci asl lsr rol ror flags acc
  refine ⟨shiftAcc_completes rfl (aslByte_eq _ _), shiftAcc_completes rfl (lsrByte_eq _ _),
    shiftAcc_completes rfl (rolByte_eq _ _), shiftAcc_completes rfl (rorByte_eq _ _), rfl, ?_⟩
  intro i ea hea m
  refine ⟨fun hi => ⟨addressingForm_mem hea hi (by decide +kernel), ?_⟩,
    fun hi => ⟨addressingForm_mem hea hi (by decide +kernel), ?_⟩,
    fun hi => ⟨addressingForm_mem hea hi (by decide +kernel), ?_⟩,
    fun hi => ⟨addressingForm_mem hea hi (by decide +kernel), ?_⟩⟩
  · exact shiftMem_completes rfl hi hea (aslByte_eq _ m)
  · exact shiftMem_completes rfl hi hea (lsrByte_eq _ m)
  · exact shiftMem_completes rfl hi hea (rolByte_eq s.cpu m)
  · exact shiftMem_completes rfl hi hea (rorByte_eq s.cpu m)

end Sys2Proof.Certificates

namespace Sys2Proof.Machine

/-- RTI's six cycles: the opcode fetch, two dummy reads and three pulls (46_system.md R681). -/
theorem returnOp_cycles (s : State) : (returnOp s).cycles = s.cycles + 6 := by
  simp only [returnOp, returnFromInterrupt, State.setPc_cycles, State.setCpu_cycles, pull_cycles, dummyRead_cycles,
    fetch_cycles]

end Sys2Proof.Machine

namespace Sys2Proof.Certificates

open Machine

/-- Settles O13: BRK is an entry after its two fetches (`softwareInterrupt_entered`), RTI three pulls (`returnOp_cpu`). -/
theorem breakAndReturn : Obligations.BreakAndReturn := by
  refine ⟨fun sig s => ⟨rfl, ?_⟩,
    fun s => ⟨rfl, _, rfl, returnOp_cpu s, returnOp_same s, returnOp_cycles s⟩⟩
  obtain ⟨l, h, entered⟩ := softwareInterrupt_entered s
  exact ⟨_, l, h, rfl, entered⟩

/-- Settles O31: each is an instruction without an operand, whose function of the registers sets its one flag
(`impliedOp_completes`). -/
theorem flagInstructions : Obligations.FlagInstructions := by
  intro s
  exact ⟨impliedOp_completes (f := id) rfl fun _ _ => rfl,
    impliedOp_completes (f := fun c => { c with c := false }) rfl fun _ _ => rfl,
    impliedOp_completes (f := fun c => { c with c := true }) rfl fun _ _ => rfl,
    impliedOp_completes (f := fun c => { c with i := false }) rfl fun _ _ => rfl,
    impliedOp_completes (f := fun c => { c with i := true }) rfl fun _ _ => rfl,
    impliedOp_completes (f := fun c => { c with d := false }) rfl fun _ _ => rfl,
    impliedOp_completes (f := fun c => { c with d := true }) rfl fun _ _ => rfl,
    impliedOp_completes (f := fun c => { c with v := false }) rfl fun _ _ => rfl, rfl⟩

end Sys2Proof.Certificates

namespace Sys2Proof.Machine

/-! ## The cycles of an instruction with an effective address (70_reset_and_hazards.md R1120) -/

/-- What a mnemonic with an effective address does there. -/
def accessOf : Mnemonic → Access
  | .sta | .stx | .sty | .sax | .sha | .tas | .shy | .shx => .write
  | .inc | .dec | .asl | .lsr | .rol | .ror | .slo | .rla | .sre | .rra | .dcp | .isc => .rmw
  | _ => .read

/-- The cycles of an access in a mode. -/
def accessCycles (acc : Access) (ea : Addressing) (s : State) : Nat :=
  match acc with
  | .read => readCycles ea s
  | .write => writeCycles ea
  | .rmw => rmwCycles ea

/-- The cycles of an access in a mode where no page is crossed. -/
def modeCycles (acc : Access) : Mode → Nat
  | .imm => 2
  | .zp => if acc = .rmw then 5 else 3
  | .zpx | .zpy | .abs => if acc = .rmw then 6 else 4
  | .abx | .aby => match acc with | .read => 4 | .write => 5 | .rmw => 7
  | .izx => if acc = .rmw then 8 else 6
  | .izy => match acc with | .read => 5 | .write => 6 | .rmw => 8

theorem accessCycles_eq (acc : Access) (ea : Addressing) (s : State) :
    accessCycles acc ea s = modeCycles acc (modeOf ea) + (if acc = .read ∧ crossOf ea s = true then 1 else 0) := by
  cases acc <;> cases ea <;> simp [accessCycles, modeCycles, modeOf, readCycles, writeCycles, rmwCycles]

/-- Only these modes index an address that can leave its page (41_addressing_load_store.md R508). -/
theorem mode_of_crossOf {ea : Addressing} {s : State} (h : crossOf ea s = true) : modeOf ea ∈ [Mode.abx, .aby, .izy] := by
  cases ea
  case abx | aby | izy => simp [modeOf]
  all_goals cases h

/-- The rows of the cycle table with an effective address. -/
theorem tableCycles_addressing : ∀ op : Byte, ∀ mode ∈ (instrOf op 0 0).addressing.map modeOf,
    tableCycles op = modeCycles (accessOf (instrOf op 0 0).mnemonic) mode
    ∧ (mode ∈ [Mode.abx, .aby, .izy] → pagePenalty op = decide (accessOf (instrOf op 0 0).mnemonic = .read)) := by
  decide +kernel

theorem branchTaken_of_addressing {i : Instr} {ea : Addressing} (hea : i.addressing = some ea) (c : Cpu) :
    branchTaken i c = none := by
  unfold branchTaken
  split
  case h_9 => rfl
  all_goals cases hea

/-- An instruction with an effective address takes the cycles of its access. -/
theorem instrCycles_of_addressing {i : Instr} {ea : Addressing} (hea : i.addressing = some ea) (s : State) :
    instrCycles i s = accessCycles (accessOf i.mnemonic) ea s := by
  obtain ⟨table, penalty⟩ := tableCycles_addressing i.opcode (modeOf ea) (by rw [addressing_instrOf, hea]; rfl)
  rw [mnemonic_instrOf] at table penalty
  have crossed : (pagePenalty i.opcode && crossOf ea s) = true ↔ accessOf i.mnemonic = .read ∧ crossOf ea s = true := by
    rw [Bool.and_eq_true]
    exact and_congr_left fun cross => by rw [penalty (mode_of_crossOf cross), decide_eq_true_eq]
  simp only [instrCycles, hea, branchTaken_of_addressing hea, table, crossed, accessCycles_eq, Nat.add_zero]

/-! ## What an undocumented opcode does under each policy (47_undocumented.md R710–R735) -/

/-- The byte and the registers of an undocumented read-modify-write instruction, by its mnemonic (R720–R723, R726, R727). -/
def undocRmwEffect : Mnemonic → Option (Cpu → Byte → Byte × Cpu)
  | .slo => some slo
  | .rla => some rla
  | .sre => some sre
  | .rra => some rra
  | .dcp => some dcp
  | .isc => some isc
  | _ => none

/-- What an undocumented instruction does under `nmos` (R713): it is of the shape of a read-modify-write, a store, a halt, a
fault, or else of a read of its source operand, if it has one. -/
def nmosEffect (i : Instr) (s : State) : State :=
  match undocRmwEffect i.mnemonic with
  | some f => i.addressing.elim id (rmwOp f) s
  | none =>
    match i.mnemonic with
    | .sax => i.addressing.elim id (storeOp fun c => c.a &&& c.x) s
    | .jam => haltOp s
    | .ane | .lxa | .sha | .tas | .shy | .shx => raiseIllegal i.opcode s
    | n => i.source.elim (impliedOp id) (readOp (registerEffect false n)) s

/-- The cycles an undocumented opcode takes where it is skipped (R712): 2 where it has no effective address. -/
def skipCycles (i : Instr) (s : State) : Nat :=
  match i.addressing with
  | none => 2
  | some ea => accessCycles (accessOf i.mnemonic) ea s

/-- Every undocumented instruction is its opcode under the three policies. -/
theorem exec_undocumented {i : Instr} (hi : i.undocumented = true) (s : State) :
    exec i s = .next (undocumented i.opcode (encode i).length (skipCycles i s) (nmosEffect i) s) := by
  cases i <;> cases hi <;> rfl

/-! ### Skipped (R712) -/

/-- The rows of the cycle table of the undocumented opcodes without an effective address; it gives none for JAM. -/
theorem tableCycles_no_addressing : ∀ op : Byte, (instrOf op 0 0).undocumented = true →
    (instrOf op 0 0).addressing.map modeOf = none → (instrOf op 0 0).mnemonic ≠ .jam → tableCycles op = 2 := by
  decide +kernel

theorem branchTaken_of_undocumented {i : Instr} (hi : i.undocumented = true) (c : Cpu) : branchTaken i c = none := by
  unfold branchTaken
  split
  case h_9 => rfl
  all_goals cases hi

/-- What the policy `nop` counts is the table's row with its page penalty, and 2 for JAM. -/
theorem skipCycles_eq {i : Instr} (hi : i.undocumented = true) (s : State) :
    skipCycles i s = if i.mnemonic = .jam then 2 else instrCycles i s := by
  unfold skipCycles
  split
  case h_1 hea =>
    split
    case isTrue => rfl
    case isFalse hjam =>
      have table : tableCycles i.opcode = 2 := tableCycles_no_addressing i.opcode ((undocumented_instrOf i).trans hi)
        (by rw [addressing_instrOf, hea]; rfl) (by rwa [mnemonic_instrOf])
      simp only [instrCycles, hea, branchTaken_of_undocumented hi, table]
  case h_2 ea hea =>
    have hjam : i.mnemonic ≠ .jam := fun h => by
      cases i <;> cases h <;> cases hea
    rw [if_neg hjam, instrCycles_of_addressing hea]

theorem encode_length (i : Instr) : (encode i).length = opcodeLength i.opcode := by
  have holds := opcodeCell_holds i
  unfold opcodeLength
  generalize opcodeCell i.opcode = c at holds
  cases holds with
  | one enc => rw [enc]; rfl
  | two enc b => rw [enc]; rfl
  | three enc a => rw [enc]; rfl

/-- No opcode with an effective address has more bytes than cycles. -/
theorem opcodeLength_le_modeCycles : ∀ op : Byte, ∀ mode ∈ (instrOf op 0 0).addressing.map modeOf,
    opcodeLength op ≤ modeCycles (accessOf (instrOf op 0 0).mnemonic) mode := by
  decide +kernel

theorem opcodeLength_le_two : ∀ op : Byte, (instrOf op 0 0).undocumented = true →
    (instrOf op 0 0).addressing.map modeOf = none → opcodeLength op ≤ 2 := by
  decide +kernel

theorem encode_length_le_skipCycles {i : Instr} (hi : i.undocumented = true) (s : State) :
    (encode i).length ≤ skipCycles i s := by
  rw [encode_length]
  unfold skipCycles
  split
  case h_1 hea => exact opcodeLength_le_two _ ((undocumented_instrOf i).trans hi) (by rw [addressing_instrOf, hea]; rfl)
  case h_2 ea hea =>
    have bound := opcodeLength_le_modeCycles i.opcode (modeOf ea) (by rw [addressing_instrOf, hea]; rfl)
    rw [mnemonic_instrOf] at bound
    rw [accessCycles_eq]
    exact bound.trans (Nat.le_add_right _ _)

theorem skipOp_cpu (bytes cycles : Nat) (s : State) :
    (skipOp bytes cycles s).cpu = { s.cpu with pc := s.cpu.pc + BitVec.ofNat 16 bytes } := by
  rw [skipOp, ticks_cpu, fetchN_cpu]

theorem skipOp_cycles {bytes cycles : Nat} (h : bytes ≤ cycles) (s : State) :
    (skipOp bytes cycles s).cycles = s.cycles + cycles := by
  rw [skipOp, ticks_cycles, fetchN_cycles]
  omega

/-! ### Each policy -/

theorem exec_undocumented_fault {i : Instr} {s : State} (hi : i.undocumented = true) (policy : s.params.undocPolicy = .fault) :
    exec i s = .next (raiseIllegal i.opcode s) := by
  rw [exec_undocumented hi, undocumented, policy]

theorem exec_undocumented_nop {i : Instr} {s : State} (hi : i.undocumented = true) (policy : s.params.undocPolicy = .nop) :
    exec i s = .next (skipOp (encode i).length (skipCycles i s) s) := by
  rw [exec_undocumented hi, undocumented, policy]

theorem exec_undocumented_nmos {i : Instr} {s : State} (hi : i.undocumented = true) (policy : s.params.undocPolicy = .nmos) :
    exec i s = .next (nmosEffect i s) := by
  rw [exec_undocumented hi, undocumented, policy]

end Sys2Proof.Machine

namespace Sys2Proof.Certificates

open Machine

/-- Settles O16: the policy skips the instruction (`exec_undocumented_nop`), which has no more bytes than cycles. -/
theorem nopPolicy : Obligations.NopPolicy := by
  intro i s hi policy n k
  have cycles : skipCycles i s = k := skipCycles_eq hi s
  have enough : n ≤ k := cycles ▸ encode_length_le_skipCycles hi s
  exact ⟨_, exec_undocumented_nop hi policy, by rw [cycles]; rfl, skipOp_cpu _ _ s, skipOp_same _ _ s,
    by rw [cycles, skipOp_cycles enough]⟩

end Sys2Proof.Certificates

namespace Sys2Proof.Machine

/-! ## What stops the core: `halted` and `fault` (10_state.md R119) -/

/-- The two fields that end or suspend a run. -/
def Cpu.stop (c : Cpu) : Bool × Option (Byte × Word) := (c.halted, c.fault)

theorem readOp_stop {f : Cpu → Byte → Cpu} (hf : ∀ c m, (f c m).stop = c.stop) (src : Source) (s : State) :
    (readOp f src s).cpu.stop = s.cpu.stop := by
  rw [readOp, State.setCpu_cpu, hf, readOperand_cpu]; rfl

theorem storeOp_stop (f : Cpu → Byte) (ea : Addressing) (s : State) : (storeOp f ea s).cpu.stop = s.cpu.stop := by
  rw [storeOp, cycleWrite_cpu, addressOf_cpu]; rfl

theorem rmwOp_stop {f : Cpu → Byte → Byte × Cpu} (hf : ∀ c m, (f c m).2.stop = c.stop) (ea : Addressing) (s : State) :
    (rmwOp f ea s).cpu.stop = s.cpu.stop := by
  rw [rmwOp_eq, cycleWrite_cpu, State.setCpu_cpu, hf, rmwBus_cpu]; rfl

theorem impliedOp_stop {f : Cpu → Cpu} (hf : ∀ c, (f c).stop = c.stop) (s : State) :
    (impliedOp f s).cpu.stop = s.cpu.stop := by
  rw [impliedOp, State.setCpu_cpu, hf, dummyRead_cpu, fetch_cpu]; rfl

theorem pushOp_stop (f : Cpu → Byte) (s : State) : (pushOp f s).cpu.stop = s.cpu.stop := by
  rw [pushOp_cpu]; rfl

theorem pullOp_stop {f : Cpu → Byte → Cpu} (hf : ∀ c m, (f c m).stop = c.stop) (s : State) :
    (pullOp f s).cpu.stop = s.cpu.stop := by
  rw [pullOp_cpu, hf]; rfl

theorem branch_stop (cond : Cpu → Bool) (off : Byte) (s : State) : (branch cond off s).cpu.stop = s.cpu.stop := by
  cases taken : cond (fetchN 2 s).cpu
  case false => rw [branch_not_taken off taken, fetchN_cpu]; rfl
  case true => rw [branch_taken_cpu off taken]; rfl

theorem jumpTo_stop (a : Word) (s : State) : (jumpTo a s).cpu.stop = s.cpu.stop := by
  rw [jumpTo, State.setPc_cpu, fetchN_cpu]; rfl

theorem jumpIndirect_stop (a : Word) (s : State) : (jumpIndirect a s).cpu.stop = s.cpu.stop := by
  obtain ⟨l, h, cpu, -⟩ := jumpIndirect_word a s
  rw [cpu]; rfl

theorem jumpSubroutine_stop (a : Word) (s : State) : (jumpSubroutine a s).cpu.stop = s.cpu.stop := by
  obtain ⟨h, cpu, -⟩ := jumpSubroutine_word a s
  rw [cpu]; rfl

theorem returnSubroutine_stop (s : State) : (returnSubroutine s).cpu.stop = s.cpu.stop := by
  rw [returnSubroutine_cpu]; rfl

theorem softwareInterrupt_stop (s : State) : (softwareInterrupt s).cpu.stop = s.cpu.stop := by
  rw [softwareInterrupt, enter_cpu, fetchN_cpu]; rfl

theorem returnOp_stop (s : State) : (returnOp s).cpu.stop = s.cpu.stop := by
  rw [returnOp_cpu]; rfl

/-- No documented instruction halts the core or raises the fault. -/
theorem exec_stop_of_documented {i : Instr} {s t : State} (hi : i.undocumented = false) (h : exec i s = .next t) :
    t.cpu.stop = s.cpu.stop := by
  cases i <;> cases hi <;> obtain rfl := Host.Outcome.next.inj h <;> (with_reducible first
    | refine readOp_stop ?_ _ _
    | refine impliedOp_stop ?_ _
    | exact storeOp_stop _ _ _
    | refine rmwOp_stop ?_ _ _
    | exact branch_stop _ _ _
    | exact pushOp_stop _ _
    | refine pullOp_stop ?_ _
    | exact jumpTo_stop _ _
    | exact jumpIndirect_stop _ _
    | exact jumpSubroutine_stop _ _
    | exact returnSubroutine_stop _
    | exact softwareInterrupt_stop _
    | exact returnOp_stop _) <;> intros <;> rfl

theorem registerEffect_stop (acc : Bool) (n : Mnemonic) (c : Cpu) (m : Byte) : (registerEffect acc n c m).stop = c.stop := by
  cases n <;> rfl

theorem undocRmwEffect_stop {n : Mnemonic} {f : Cpu → Byte → Byte × Cpu} (hf : undocRmwEffect n = some f) (c : Cpu)
    (m : Byte) : (f c m).2.stop = c.stop := by
  cases n <;> cases hf <;> rfl

/-- An effect chosen by an operand that may be absent. -/
theorem elim_stop {α : Type} (o : Option α) {g : State → State} {f : α → State → State}
    (hg : ∀ s, (g s).cpu.stop = s.cpu.stop) (hf : ∀ a s, (f a s).cpu.stop = s.cpu.stop) (s : State) :
    (o.elim g f s).cpu.stop = s.cpu.stop := by
  cases o with
  | none => exact hg s
  | some a => exact hf a s

/-- Under `nmos` no other opcode than JAM and the unstable ones stops the core. -/
theorem nmosEffect_stop {i : Instr} (hjam : i.mnemonic ≠ .jam) (hi : isUnstable i = false) (s : State) :
    (nmosEffect i s).cpu.stop = s.cpu.stop := by
  cases hf : undocRmwEffect i.mnemonic with
  | some f =>
    simp only [nmosEffect, hf]
    exact elim_stop _ (fun _ => rfl) (rmwOp_stop (undocRmwEffect_stop hf)) s
  | none =>
    simp only [nmosEffect, hf]
    split
    case h_1 => exact elim_stop _ (fun _ => rfl) (storeOp_stop _) s
    case h_2 h => exact absurd h hjam
    case h_9 => exact elim_stop _ (impliedOp_stop fun _ => rfl) (readOp_stop (registerEffect_stop false _)) s
    all_goals simp only [isUnstable, *, Bool.true_eq_false] at hi

theorem nmosEffect_jam {i : Instr} (hjam : i.mnemonic = .jam) (s : State) : nmosEffect i s = haltOp s := by
  simp only [nmosEffect, hjam, undocRmwEffect]

theorem nmosEffect_unstable {i : Instr} (hi : isUnstable i = true) (s : State) : nmosEffect i s = raiseIllegal i.opcode s := by
  unfold isUnstable at hi
  split at hi
  case h_7 => cases hi
  all_goals simp only [nmosEffect, undocRmwEffect, *]

/-- JAM halts the core, which is no fault (R714). -/
theorem haltOp_fault (s : State) : (haltOp s).cpu.fault = s.cpu.fault := by
  rw [haltOp, State.setCpu_cpu, fetch_cpu]

theorem nmosEffect_fault {i : Instr} (hi : isUnstable i = false) (s : State) : (nmosEffect i s).cpu.fault = s.cpu.fault := by
  by_cases hjam : i.mnemonic = .jam
  · rw [nmosEffect_jam hjam, haltOp_fault]
  · exact congrArg Prod.snd (nmosEffect_stop hjam hi s)

/-! ## The fault (47_undocumented.md R711, R735, 60_exceptions.md R830) -/

/-- The instruction raises IllegalOpcode in this state. -/
def RaisesIllegal (i : Instr) (s : State) : Prop :=
  s.params.undocPolicy = .fault ∨ (s.params.undocPolicy = .nmos ∧ isUnstable i = true)

theorem exec_raisesIllegal {i : Instr} {s : State} (hi : i.undocumented = true) (raises : RaisesIllegal i s) :
    exec i s = .next (raiseIllegal i.opcode s) := by
  obtain policy | ⟨policy, unstable⟩ := raises
  · exact exec_undocumented_fault hi policy
  · rw [exec_undocumented_nmos hi policy, nmosEffect_unstable unstable]

/-- An undocumented opcode that is skipped or executed raises no fault. -/
theorem exec_fault_of_not_raises {i : Instr} {s t : State} (hi : i.undocumented = true) (spared : ¬RaisesIllegal i s)
    (h : exec i s = .next t) : t.cpu.fault = s.cpu.fault := by
  cases policy : s.params.undocPolicy with
  | fault => exact absurd (.inl policy) spared
  | nop =>
    obtain rfl := Host.Outcome.next.inj ((exec_undocumented_nop hi policy).symm.trans h)
    rw [skipOp_cpu]
  | nmos =>
    obtain rfl := Host.Outcome.next.inj ((exec_undocumented_nmos hi policy).symm.trans h)
    exact nmosEffect_fault (Bool.eq_false_iff.2 fun unstable => spared (.inr ⟨policy, unstable⟩)) s

/-- PC and every register stay at the opcode fetch (R830). -/
theorem raiseIllegal_eq (op : Byte) (s : State) :
    raiseIllegal op s = (cycleRead s s.cpu.pc).2.setCpu { s.cpu with fault := some (op, s.cpu.pc) } := by
  rw [raiseIllegal, cycleRead_cpu]

theorem raiseIllegal_cycles (op : Byte) (s : State) : (raiseIllegal op s).cycles = s.cycles + 1 := by
  rw [raiseIllegal, State.setCpu_cycles, cycleRead_cycles]

/-- No step is taken from a faulted state (R830). -/
theorem step_of_fault {s : State} {op : Byte} {a : Word} (h : s.cpu.fault = some (op, a)) :
    step s = .refused (.faulted op a) := by
  simp only [step, h]

end Sys2Proof.Machine

namespace Sys2Proof.Certificates

open Machine

/-- Settles O15: the fault is one read cycle (`raiseIllegal_eq`); a documented instruction stops nothing
(`exec_stop_of_documented`), and neither does an undocumented one outside the fault's conditions
(`exec_fault_of_not_raises`). -/
theorem illegalOpcode : Obligations.IllegalOpcode := by
  refine ⟨fun i s hi raises => ?_, fun i s t h changed => ?_⟩
  · exact ⟨_, exec_raisesIllegal hi raises, raiseIllegal_eq _ s, raiseIllegal_same _ s, raiseIllegal_cycles _ s,
      step_of_fault rfl⟩
  · cases hi : i.undocumented with
    | false => exact absurd (congrArg Prod.snd (exec_stop_of_documented hi h)) changed
    | true => exact ⟨rfl, by_contra fun spared => changed (exec_fault_of_not_raises hi spared h)⟩

end Sys2Proof.Certificates

namespace Sys2Proof.Machine

/-! ## How an undocumented instruction completes under `nmos` (47_undocumented.md R720–R734) -/

theorem undocumented_of_rmw {i : Instr} {f : Cpu → Byte → Byte × Cpu} (hf : undocRmwEffect i.mnemonic = some f) :
    i.undocumented = true := by
  unfold Instr.undocumented
  generalize i.mnemonic = n at hf
  cases n <;> cases hf <;> rfl

theorem undocRmwEffect_pc {n : Mnemonic} {f : Cpu → Byte → Byte × Cpu} (hf : undocRmwEffect n = some f) (c : Cpu) (m : Byte)
    (pc : Word) : f { c with pc := pc } m = ((f c m).1, { (f c m).2 with pc := pc }) := by
  cases n <;> cases hf <;> rfl

/-- An undocumented read-modify-write instruction completes with its mnemonic's effect of the byte read. -/
theorem undocRmw_completes {i : Instr} {n : Mnemonic} {f : Cpu → Byte → Byte × Cpu} {ea : Addressing} {s : State}
    (policy : s.params.undocPolicy = .nmos) (hf : undocRmwEffect n = some f) (hi : i.mnemonic = n)
    (hea : i.addressing = some ea) : RmwCompletes i ea s (f s.cpu (rmwBus ea s).1).1 (f s.cpu (rmwBus ea s).1).2 := by
  subst hi
  have run := exec_undocumented_nmos (undocumented_of_rmw hf) policy
  simp only [nmosEffect, hf, hea, Option.elim_some] at run
  exact rmwOp_completes run (undocRmwEffect_pc hf)

/-- The undocumented instructions that read their operand into the registers: the stable ones but for the
read-modify-writes, SAX and the NOPs. -/
def loadsOperand : Mnemonic → Bool
  | .lax | .las | .anc | .alr | .arr | .axs | .usbc => true
  | _ => false

theorem registerEffect_pc_of_loads {n : Mnemonic} (hn : loadsOperand n = true) (c : Cpu) (m : Byte) (pc : Word) :
    registerEffect false n { c with pc := pc } m = { registerEffect false n c m with pc := pc } := by
  cases n <;> cases hn <;> rfl

/-- Such an instruction completes with its mnemonic's effect of the operand. -/
theorem undocRead_completes {i : Instr} {n : Mnemonic} {src : Source} {s : State} (policy : s.params.undocPolicy = .nmos)
    (hn : loadsOperand n = true) (hi : i.mnemonic = n) (hsrc : i.source = some src) :
    ReadCompletes i src s (registerEffect false n s.cpu (operandByte src s)) := by
  have undoc : i.undocumented = true := by
    simp only [Instr.undocumented, hi]
    cases n <;> cases hn <;> rfl
  have effect : nmosEffect i s = readOp (registerEffect false n) src s := by
    simp only [nmosEffect, hi, hsrc]
    cases n <;> cases hn <;> rfl
  have run := exec_undocumented_nmos undoc policy
  rw [effect] at run
  exact readOp_completes run (registerEffect_pc_of_loads hn)

/-- A read of an immediate byte writes nothing. -/
theorem ReadCompletes.completes {i : Instr} {m : Byte} {s : State} {c : Cpu} (h : ReadCompletes i (.imm m) s c) :
    Completes i s 2 2 c := by
  obtain ⟨t, run, rfl, cycles⟩ := h
  exact ⟨_, run, rfl, (readOperand_same _ s).setCpu _, cycles⟩

/-- The undocumented NOPs without an operand (R733). -/
theorem impliedNop_opcodes : ∀ op : Byte, (instrOf op 0 0).mnemonic = .nop → (instrOf op 0 0).undocumented = true →
    (instrOf op 0 0).source.map sourceMode = none → op ∈ ([0x1A, 0x3A, 0x5A, 0x7A, 0xDA, 0xFA] : List Byte) := by
  decide +kernel

/-! ## Their effects in exact arithmetic -/

/-- The registers with r in A, N and Z of r, and a carry. -/
def accumulated (c : Cpu) (carry : Bool) (r : Byte) : Cpu :=
  { c with a := r, n := r.getLsbD 7, z := decide (r = 0), c := carry }

/-- ASL, then ORA (R720). -/
theorem slo_eq (c : Cpu) (m : Byte) :
    slo c m =
      let r : Byte := BitVec.ofNat 8 (2 * m.toNat)
      (r, accumulated c (m.getLsbD 7) (c.a ||| r)) := by
  simp only [slo, shiftFlags_eq, aslByte_eq]
  rfl

/-- ROL, then AND (R721). -/
theorem rla_eq (c : Cpu) (m : Byte) :
    rla c m =
      let r : Byte := BitVec.ofNat 8 (2 * m.toNat + carryNat c)
      (r, accumulated c (m.getLsbD 7) (c.a &&& r)) := by
  simp only [rla, shiftFlags_eq, rolByte_eq]
  rfl

/-- LSR, then EOR (R722). -/
theorem sre_eq (c : Cpu) (m : Byte) :
    sre c m =
      let r : Byte := BitVec.ofNat 8 (m.toNat / 2)
      (r, accumulated c (m.getLsbD 0) (c.a ^^^ r)) := by
  simp only [sre, shiftFlags_eq, lsrByte_eq]
  rfl

/-- The carry that a right shift leaves is the byte's lowest bit. -/
theorem carryNat_flagsOfShift (c : Cpu) (r m : Byte) : carryNat (flagsOfShift c (r, m.getLsbD 0)) = m.toNat % 2 := by
  simp only [carryNat, flagsOfShift, BitVec.getLsbD, Nat.testBit_zero, decide_eq_true_eq]
  split <;> omega

/-- ROR, then ADC with the carry of the rotate (R723). -/
theorem rra_eq (c : Cpu) (m : Byte) :
    rra c m =
      let r : Byte := BitVec.ofNat 8 (128 * carryNat c + m.toNat / 2)
      let sum := c.a.toNat + r.toNat + m.toNat % 2
      let signed := c.a.toInt + r.toInt + (m.toNat % 2 : Nat)
      (r, { accumulated c (decide (256 ≤ sum)) (BitVec.ofNat 8 sum) with v := decide (signed < -128 ∨ 127 < signed) }) := by
  simp only [rra, shiftFlags_eq, rorByte_eq, addC_eq, carryNat_flagsOfShift]
  rfl

/-- DEC, then CMP (R726). -/
theorem dcp_eq (c : Cpu) (m : Byte) :
    dcp c m = (m - 1, { c with
      c := decide ((m - 1).toNat ≤ c.a.toNat), z := decide (c.a = m - 1), n := (c.a - (m - 1)).getLsbD 7 }) := by
  rw [dcp, compare_eq]

/-- INC, then SBC (R727). -/
theorem isc_eq (c : Cpu) (m : Byte) :
    isc c m =
      let diff := (c.a.toNat : Int) - (m + 1).toNat - (1 - carryNat c)
      let signed := c.a.toInt - (m + 1).toInt - (1 - carryNat c)
      (m + 1, { accumulated c (decide (0 ≤ diff)) (BitVec.ofInt 8 diff) with
        v := decide (signed < -128 ∨ 127 < signed) }) := by
  rw [isc, subC_eq]
  rfl

/-- AND, then LSR of A, whose result is below 128 (R729). -/
theorem alr_eq (c : Cpu) (m : Byte) :
    alr c m =
      let t := c.a &&& m
      let r : Byte := BitVec.ofNat 8 (t.toNat / 2)
      { c with a := r, n := false, z := decide (r = 0), c := t.getLsbD 0 } := by
  have sign : (BitVec.ofNat 8 ((c.a &&& m).toNat / 2)).getLsbD 7 = false := by
    rw [getLsbD_seven, BitVec.toNat_ofNat, decide_eq_false_iff_not]
    omega
  simp only [alr, shiftAcc, shiftFlags_eq, lsrByte_eq, flagsOfShift, sign]

/-- AND, then ROR of A, with C and V from bits 6 and 5 of the result (R730). -/
theorem arr_eq (c : Cpu) (m : Byte) :
    arr c m =
      let t := c.a &&& m
      let r : Byte := BitVec.ofNat 8 (128 * carryNat c + t.toNat / 2)
      { accumulated c (r.getLsbD 6) r with v := r.getLsbD 6 ^^ r.getLsbD 5 } := by
  simp only [arr, rorByte_eq]
  rfl

/-- The comparison of A & X with the operand, and their difference in X (R731). -/
theorem axs_eq (c : Cpu) (m : Byte) :
    axs c m =
      let ax := c.a &&& c.x
      { c with x := ax - m, n := (ax - m).getLsbD 7, z := decide (ax = m), c := decide (m.toNat ≤ ax.toNat) } := by
  rw [axs, compare_eq]

end Sys2Proof.Machine

namespace Sys2Proof.Certificates

open Machine

/-- Settles O32: each completes with its mnemonic's effect of the byte read (`undocRmw_completes`), in exact arithmetic
(`slo_eq` to `rra_eq`, and DCP and ISC by the comparator and the subtractor). -/
theorem undocReadModifyWrite : Obligations.UndocReadModifyWrite := by
  intro i ea s hea policy m a ci into modes
  have completes {n : Mnemonic} {f : Cpu → Byte → Byte × Cpu} {r : Byte} {c : Cpu} (hf : undocRmwEffect n = some f)
      (hi : i.mnemonic = n) (value : f s.cpu m = (r, c)) : RmwCompletes i ea s r c := by
    have h := undocRmw_completes policy hf hi hea
    rwa [value] at h
  refine ⟨fun hi => ⟨addressingForm_mem hea hi (by decide +kernel), ?_⟩,
    fun hi => ⟨addressingForm_mem hea hi (by decide +kernel), ?_⟩,
    fun hi => ⟨addressingForm_mem hea hi (by decide +kernel), ?_⟩,
    fun hi => ⟨addressingForm_mem hea hi (by decide +kernel), ?_⟩,
    fun hi => ⟨addressingForm_mem hea hi (by decide +kernel), ?_⟩,
    fun hi => ⟨addressingForm_mem hea hi (by decide +kernel), ?_⟩⟩
  · exact completes (n := .slo) rfl hi (slo_eq s.cpu m)
  · exact completes (n := .rla) rfl hi (rla_eq s.cpu m)
  · exact completes (n := .sre) rfl hi (sre_eq s.cpu m)
  · exact completes (n := .rra) rfl hi (rra_eq s.cpu m)
  · exact completes (n := .dcp) rfl hi (dcp_eq s.cpu m)
  · exact completes (n := .isc) rfl hi (isc_eq s.cpu m)

/-- Settles O33: SAX is a store of A & X, LAX and LAS read their operand into the registers (`undocRead_completes`). -/
theorem undocLoadStore : Obligations.UndocLoadStore := by
  constructor
  · intro i ea s hea policy hi
    have run := exec_undocumented_nmos (i := i) (by simp only [Instr.undocumented, hi]) policy
    simp only [nmosEffect, undocRmwEffect, hi, hea, Option.elim_some] at run
    exact ⟨addressingForm_mem hea hi (by decide +kernel), storeOp_completes (f := fun c => c.a &&& c.x) run⟩
  · intro i src s hsrc policy m r
    refine ⟨fun hi => ⟨sourceForm_mem hsrc hi (by decide +kernel), ?_⟩, fun hi => ⟨?_, ?_⟩⟩
    · exact undocRead_completes (n := .lax) policy rfl hi hsrc
    · exact List.mem_singleton.1 (sourceForm_mem hsrc hi (by decide +kernel))
    · exact undocRead_completes (n := .las) policy rfl hi hsrc

/-- Settles O34: each reads its immediate byte into the registers (`undocRead_completes`) by its effect in exact arithmetic. -/
theorem undocImmediate : Obligations.UndocImmediate := by
  intro m s policy c t half rot ax diff signed r
  have completes {i : Instr} {n : Mnemonic} {d : Cpu} (hn : loadsOperand n = true) (hi : i.mnemonic = n)
      (hsrc : i.source = some (.imm m)) (value : registerEffect false n c m = d) : Completes i s 2 2 d :=
    value ▸ (undocRead_completes policy hn hi hsrc).completes
  exact ⟨completes (n := .anc) rfl rfl rfl rfl, completes (n := .anc) rfl rfl rfl rfl,
    completes (n := .alr) rfl rfl rfl (alr_eq c m), completes (n := .arr) rfl rfl rfl (arr_eq c m),
    completes (n := .axs) rfl rfl rfl (axs_eq c m), completes (n := .usbc) rfl rfl rfl (subC_eq c m), rfl⟩

/-- Settles O35: a NOP with an operand is a read instruction that keeps the registers, one without an operand passes its
opcode. -/
theorem undocNops : Obligations.UndocNops := by
  intro i s hi undoc policy
  have run := exec_undocumented_nmos undoc policy
  refine ⟨fun src hsrc => ⟨sourceForm_mem hsrc hi (by decide +kernel), ?_⟩, fun hsrc => ⟨?_, ?_⟩⟩
  · simp only [nmosEffect, undocRmwEffect, hi, hsrc, Option.elim_some] at run
    exact readOp_completes (f := fun c _ => c) run fun _ _ _ => rfl
  · exact impliedNop_opcodes i.opcode ((mnemonic_instrOf i).trans hi) ((undocumented_instrOf i).trans undoc)
      (by rw [source_instrOf, hsrc]; rfl)
  · simp only [nmosEffect, undocRmwEffect, hi, hsrc, Option.elim_none] at run
    exact impliedOp_completes run fun _ _ => rfl

end Sys2Proof.Certificates

namespace Sys2Proof.Machine

/-! ## The DMC in range -/

/-- The bounds of the DMC record (60_exceptions.md R842, 62_apu.md R1040, R1042). -/
structure Dmc.InRange (d : Dmc) : Prop where
  bits     : 1 ≤ d.bitsRemaining ∧ d.bitsRemaining ≤ 8
  sample   : 0xC000 ≤ d.sampleAddress.toNat
  current  : d.bytesRemaining ≠ 0 → 0x8000 ≤ d.currentAddress.toNat
  length   : d.sampleLength.toNat ≤ 4081
  requests : d.fetchPending = true → d.buffer = none ∧ 0x8000 ≤ d.currentAddress.toNat

theorem dmcInRange_iff (s : State) : s.DmcInRange ↔ s.apu.dmc.InRange :=
  ⟨fun ⟨bits, sample, current, length, requests⟩ => ⟨bits, sample, current, length, requests⟩,
    fun ⟨bits, sample, current, length, requests⟩ => ⟨bits, sample, current, length, requests⟩⟩

namespace Dmc.InRange

variable {d : Dmc} (h : d.InRange)
include h

/-- A request is made only while the buffer is empty and bytes remain (R1042). -/
theorem dmcRequest : (dmcRequest d).InRange := by
  unfold Machine.dmcRequest
  split
  next wants => exact ⟨h.bits, h.sample, h.current, h.length, fun _ => ⟨wants.1, h.current wants.2⟩⟩
  next => exact h

/-- The bit count starts again at 8 where it reaches 0, and a buffer is only ever emptied (R1041). -/
theorem dmcOutput : (dmcOutput d).InRange := by
  obtain ⟨⟨low, high⟩, sample, current, length, requests⟩ := h
  have eight : 1 ≤ 8 ∧ 8 ≤ 8 := by decide
  unfold Machine.dmcOutput
  simp only
  split
  · split
    · exact ⟨eight, sample, current, length, requests⟩
    · exact ⟨eight, sample, current, length, fun pending => ⟨rfl, (requests pending).2⟩⟩
  next more =>
    have fewer : 1 ≤ d.bitsRemaining - 1 ∧ d.bitsRemaining - 1 ≤ 8 := by omega
    exact ⟨fewer, sample, current, length, requests⟩

theorem dmcTimer (r : Region) : (dmcTimer r d).InRange := by
  have withTimer (t : BitVec 9) : ({ d with timer := t } : Dmc).InRange :=
    ⟨h.bits, h.sample, h.current, h.length, h.requests⟩
  unfold Machine.dmcTimer
  split
  · exact (withTimer _).dmcOutput.dmcRequest
  · exact (withTimer _).dmcRequest

/-- A sample starts at its address, in 0xC000 up (R1043). -/
theorem dmcRestart : (dmcRestart d).InRange := by
  have start : 0x8000 ≤ d.sampleAddress.toNat := le_trans (by decide) h.sample
  exact ⟨h.bits, h.sample, fun _ => start, h.length, fun pending => ⟨(h.requests pending).1, start⟩⟩

/-- The address after a fetch's wraps to 0x8000 (R1042), also where the sample was stopped after the request. -/
theorem dmcTake (pending : d.fetchPending = true) (b : Byte) : (dmcTake d b).InRange := by
  have here := (h.requests pending).2
  have next : 0x8000 ≤ (if d.currentAddress = 0xFFFF then 0x8000 else d.currentAddress + 1 : Word).toNat := by
    split
    · decide
    · bv_omega
  have taken : ({ d with
      buffer := some b
      fetchPending := false
      currentAddress := if d.currentAddress = 0xFFFF then 0x8000 else d.currentAddress + 1
      bytesRemaining := d.bytesRemaining - 1 } : Dmc).InRange :=
    ⟨h.bits, h.sample, fun _ => next, h.length, fun e => Bool.noConfusion e⟩
  unfold Machine.dmcTake
  simp only
  split
  · exact taken.dmcRestart
  · exact taken

/-- The sample's address and length are those of R1007. -/
theorem dmcWrite (k : Nat) (v : Byte) : (dmcWrite k d v).InRange := by
  have address : 0xC000 ≤ (0xC000 + 64 * v.setWidth 16 : Word).toNat := by bv_omega
  have length : (16 * v.setWidth 16 + 1 : Word).toNat ≤ 4081 := by bv_omega
  unfold Machine.dmcWrite
  split
  · exact ⟨h.bits, h.sample, h.current, h.length, h.requests⟩
  · exact ⟨h.bits, h.sample, h.current, h.length, h.requests⟩
  · exact ⟨h.bits, address, h.current, h.length, h.requests⟩
  · exact ⟨h.bits, h.sample, h.current, length, h.requests⟩

/-- A stopped sample leaves its request standing (60_exceptions.md R843). -/
theorem dmcEnable (on : Bool) : (dmcEnable on d).InRange := by
  unfold Machine.dmcEnable
  repeat' split
  · exact h.dmcRestart.dmcRequest
  · exact h
  · exact ⟨h.bits, h.sample, fun more => absurd rfl more, h.length, h.requests⟩

end Dmc.InRange

/-- Of the APU's registers only 0x4010–0x4013 and 0x4015 reach the DMC (62_apu.md R1001). -/
theorem apuWrite_dmc_inRange {a : Apu} (h : a.dmc.InRange) (r : Nat) (v : Byte) : (apuWrite a r v).dmc.InRange := by
  have counter : (frameCounterWrite a v).dmc = a.dmc := by unfold frameCounterWrite; split <;> rfl
  unfold apuWrite
  repeat' split
  · exact h
  · exact h
  · exact h
  · exact h
  · exact h.dmcWrite _ v
  · exact h.dmcEnable _
  · exact counter ▸ h
  · exact h

theorem ppuWrite_apu (s : State) (a : BitVec 14) (v : Byte) : (ppuWrite s a v).apu = s.apu := by
  unfold ppuWrite
  simp only
  repeat' split
  all_goals rfl

theorem ppuRegWrite_apu (s : State) (r : Nat) (v : Byte) : (ppuRegWrite s r v).apu = s.apu := by
  unfold ppuRegWrite
  split
  case h_7 => exact ppuWrite_apu _ _ _
  all_goals rfl

/-- A CPU write reaches the APU through its registers alone (20_memory.md R205). -/
theorem cpuWrite_apu_cases (s : State) (a : Word) (v : Byte) :
    (cpuWrite s a v).apu = s.apu ∨ ∃ r, (cpuWrite s a v).apu = apuWrite s.apu r v := by
  unfold cpuWrite
  simp only
  repeat' split
  · exact .inl rfl
  · exact .inl (ppuRegWrite_apu s _ v)
  · exact .inr ⟨a.toNat - 0x4000, by dsimp only⟩
  all_goals exact .inl rfl

theorem cpuWrite_dmc_inRange {s : State} (h : s.apu.dmc.InRange) (a : Word) (v : Byte) :
    (cpuWrite s a v).apu.dmc.InRange := by
  obtain same | ⟨r, reg⟩ := cpuWrite_apu_cases s a v
  · rwa [same]
  · rw [reg]
    exact apuWrite_dmc_inRange h r v

/-- Every part of a step keeps the DMC's record in range. -/
theorem dmcInRange_keptByParts : KeptByParts (fun s => s.apu.dmc.InRange) where
  tick s h := by
    rw [tick_apu, apuCycle_dmc]
    exact h.dmcTimer _
  read s a h := by rwa [cpuRead_apu]
  write _ a v h := cpuWrite_dmc_inRange h a v
  cpu _ _ h := h
  oamByte _ _ h := h
  dmaDone _ h := h
  stall _ h := h
  dmcByte _ b pending h := h.dmcTake pending b
  nmiTaken _ h := h
  warm _ h := ⟨h.bits, h.sample, fun more => absurd rfl more, h.length, fun e => Bool.noConfusion e⟩
  zero _ h := h

end Sys2Proof.Machine

namespace Sys2Proof.Certificates

open Machine

/-- Settles O45: every part of a step keeps the DMC's record in range; a fetch is made only for a standing request, whose
address lies in 0x8000 up. -/
theorem stepKeepsDmc : Obligations.StepKeepsDmc :=
  fun s t hs h => (dmcInRange_iff t).2 (dmcInRange_keptByParts.step ((dmcInRange_iff s).1 hs) h)

end Sys2Proof.Certificates

namespace Sys2Proof.Machine

/-! ## The parts of a step (60_exceptions.md R800) -/

/-- Every instruction answers a next state (R832). -/
theorem exists_exec_eq_next (i : Instr) (s : State) : ∃ t, exec i s = .next t := by
  cases i <;> exact ⟨_, rfl⟩

theorem step_of_canStep {s : State} (h : s.canStep = true) : step s = stepRunning { s with cycles := 0 } := by
  obtain ⟨present, fault⟩ := Bool.and_eq_true_iff.1 h
  simp only [step, Option.isNone_iff_eq_none.1 fault, present, ↓reduceIte]

/-- No step is taken with no cartridge (R853). -/
theorem step_of_not_present {s : State} (fault : s.cpu.fault = none) (h : s.present = false) :
    step s = .refused .noCartridge := by
  simp only [step, fault, h, Bool.false_eq_true, ↓reduceIte]

theorem stepRunning_of_idles {s : State} (h : idles s = true) : stepRunning s = .next (tick s) := if_pos h

theorem stepRunning_of_not_idles {s : State} (h : idles s = false) : stepRunning s = runInstr (interruptCheck s) :=
  if_neg (by simp [h])

theorem runInstr_of_exec {s t : State} (h : exec (fetchInstr s) s = .next t) : runInstr s = .next (finishStep t) := by
  simp only [runInstr, h]

theorem exists_stepRunning_eq_next (s : State) : ∃ t, stepRunning s = .next t := by
  cases idle : idles s with
  | true => exact ⟨_, stepRunning_of_idles idle⟩
  | false =>
    obtain ⟨t, run⟩ := exists_exec_eq_next (fetchInstr (interruptCheck s)) (interruptCheck s)
    exact ⟨_, (stepRunning_of_not_idles idle).trans (runInstr_of_exec run)⟩

/-- After a fault no DMA is stolen (R830). -/
theorem finishStep_of_fault {s : State} (h : s.cpu.fault ≠ none) : finishStep s = s := if_neg h

theorem oamDmaRun_of_none {s : State} (h : s.oamDma = none) : oamDmaRun s = s := by
  simp only [oamDmaRun, h]

theorem finishStep_of_no_request {s : State} (oam : s.oamDma = none) (dmc : s.apu.dmc.fetchPending = false) :
    finishStep s = s := by
  unfold finishStep
  split
  · simp only [oamDmaRun_of_none oam, dmcRun, dmc, Bool.false_eq_true, ↓reduceIte]
  · rfl

theorem interruptCheck_of_quiet {s : State} (h : s.quiet = true) : interruptCheck s = s := by
  simp only [State.quiet, Bool.and_eq_true, Bool.not_eq_true'] at h
  obtain ⟨⟨⟨reset, -⟩, nmi⟩, irq⟩ := h
  simp only [interruptCheck, reset, nmi, irq, Bool.false_eq_true, ↓reduceIte]

/-! ## The instruction at PC -/

/-- A fetch reads the byte that stood at its address before the fetches ahead of it. -/
theorem fetched_fetchN {s : State} {n : Nat} {b : Byte} (h : memByte s (s.cpu.pc + BitVec.ofNat 16 n) = some b) :
    fetched (fetchN n s) = b := by
  rw [fetched, fetchN_cpu]
  exact cpuRead_fst (((fetchN_same n s).memByte _).trans h)

/-- Where memory stands at PC, the instruction fetched is the one its bytes decode to (20_memory.md R217). -/
theorem fetchInstr_of_decode {s : State} {i : Instr} {bs : List Byte}
    (bytes : ∀ k (h : k < bs.length), memByte s (s.cpu.pc + BitVec.ofNat 16 k) = some bs[k])
    (ok : decode bs = .ok (i, [])) : fetchInstr s = i := by
  obtain _ | ⟨op, rest⟩ := bs
  · cases ok
  have first : fetched s = op := fetched_fetchN (n := 0) (bytes 0 (Nat.succ_pos _))
  simp only [fetchInstr, first]
  unfold decode at ok
  simp only at ok
  unfold opcodeLength instrOf
  split at ok
  case h_1 cell =>
    cases ok
    simp only [cell]
  case h_2 b rest cell =>
    cases ok
    have second : fetched (fetch s) = b := fetched_fetchN (n := 1) (bytes 1 (by simp))
    simp only [cell, second]
  case h_3 l h rest cell =>
    cases ok
    have second : fetched (fetch s) = l := fetched_fetchN (n := 1) (bytes 1 (by simp))
    have third : fetched (fetchN 2 s) = h := fetched_fetchN (n := 2) (bytes 2 (by simp))
    simp only [cell, second, third]
  case h_4 | h_5 => cases ok

/-! ## What halts the core -/

theorem jam_opcodes : ∀ op : Byte, (instrOf op 0 0).mnemonic = .jam →
    op ∈ ([0x02, 0x12, 0x22, 0x32, 0x42, 0x52, 0x62, 0x72, 0x92, 0xB2, 0xD2, 0xF2] : List Byte) := by
  decide +kernel

theorem haltOp_cpu (s : State) : (haltOp s).cpu = { s.cpu with pc := s.cpu.pc + 1, halted := true } := by
  rw [haltOp, State.setCpu_cpu, fetch_cpu]

theorem undocumented_of_jam {i : Instr} (h : i.mnemonic = .jam) : i.undocumented = true := by
  simp only [Instr.undocumented, h]

theorem exec_jam_nmos {i : Instr} {s : State} (h : i.mnemonic = .jam) (policy : s.params.undocPolicy = .nmos) :
    exec i s = .next (haltOp s) := by
  rw [exec_undocumented_nmos (undocumented_of_jam h) policy, nmosEffect_jam h]

theorem raiseIllegal_halted (op : Byte) (s : State) : (raiseIllegal op s).cpu.halted = s.cpu.halted := by
  rw [raiseIllegal, State.setCpu_cpu, cycleRead_cpu]

/-- Nothing but a JAM that is executed moves `halted` (47_undocumented.md R714). -/
theorem exec_halted_of_not_jam {i : Instr} {s t : State} (h : exec i s = .next t)
    (spared : ¬(i.mnemonic = .jam ∧ s.params.undocPolicy = .nmos)) : t.cpu.halted = s.cpu.halted := by
  cases undoc : i.undocumented with
  | false => exact congrArg Prod.fst (exec_stop_of_documented undoc h)
  | true =>
    cases policy : s.params.undocPolicy with
    | fault =>
      obtain rfl := Host.Outcome.next.inj ((exec_undocumented_fault undoc policy).symm.trans h)
      exact raiseIllegal_halted _ s
    | nop =>
      obtain rfl := Host.Outcome.next.inj ((exec_undocumented_nop undoc policy).symm.trans h)
      rw [skipOp_cpu]
    | nmos =>
      obtain rfl := Host.Outcome.next.inj ((exec_undocumented_nmos undoc policy).symm.trans h)
      cases unstable : isUnstable i with
      | true => rw [nmosEffect_unstable unstable, raiseIllegal_halted]
      | false => exact congrArg Prod.fst (nmosEffect_stop (fun jam => spared ⟨jam, policy⟩) unstable s)

theorem interruptEntry_halted (v : Word) (s : State) : (interruptEntry v s).cpu.halted = s.cpu.halted := by
  rw [interruptEntry, enter_cpu, dummyRead_cpu, dummyRead_cpu]

theorem resetEntry_halted (s : State) : (resetEntry s).cpu.halted = false := by
  rw [resetEntry_eq, loadVector_cpu, beforeResetVector_cpu]

end Sys2Proof.Machine

namespace Sys2Proof.Certificates

open Machine

/-- Settles O8: a step that is not refused idles or runs an instruction, and every instruction answers a next state
(`exists_exec_eq_next`). -/
theorem stepOutcomes : Obligations.StepOutcomes := by
  refine fun s => ⟨fun ok => ?_, fun op a => step_of_fault, step_of_not_present⟩
  rw [step_of_canStep ok]
  exact exists_stepRunning_eq_next _

/-- Settles O10: JAM under `nmos` is `haltOp`, no other instruction moves `halted` (`exec_halted_of_not_jam`), and a halted step
is one cycle of device time. -/
theorem haltedState : Obligations.HaltedState := by
  refine ⟨fun i s jam policy => ⟨?_, ?_⟩, fun i s t h before after => ?_, fun s ok halted reset => ?_,
    fun s => ⟨resetEntry_halted s, interruptEntry_halted _ _, interruptEntry_halted _ s⟩⟩
  · exact jam_opcodes i.opcode ((mnemonic_instrOf i).trans jam)
  · exact ⟨_, exec_jam_nmos jam policy, haltOp_cpu s, haltOp_same s⟩
  · by_contra spared
    rw [exec_halted_of_not_jam h spared, before] at after
    cases after
  · let z : State := { s with cycles := 0 }
    have idle : idles z = true := by simp [idles, z, halted, reset]
    have zero : SameMemory s z := ⟨⟨rfl, rfl, rfl, rfl⟩, ⟨rfl, rfl, rfl, rfl⟩, .refl _, rfl, rfl, rfl, rfl⟩
    exact ⟨tick z, (step_of_canStep ok).trans (stepRunning_of_idles idle), rfl, tick_cycles z, tick_cpu z, tick_draws z,
      zero.trans (tick_same z)⟩

/-- Settles O7: the instruction fetched is the one the bytes at PC decode to (`fetchInstr_of_decode`). -/
theorem stepRunsDecoded : Obligations.StepRunsDecoded := by
  intro s u i bs ok idle check bytes dec
  let z : State := { s with cycles := 0 }
  have running : idles z = false := idle
  obtain ⟨t, run⟩ := exists_exec_eq_next i u
  have whole : step s = .next (finishStep t) := by
    rw [step_of_canStep ok, stepRunning_of_not_idles running, ← check]
    exact runInstr_of_exec ((fetchInstr_of_decode bytes dec).symm ▸ run)
  exact ⟨⟨t, run, whole, fun oam dmc => whole.trans (congrArg _ (finishStep_of_no_request oam dmc)),
    fun fault => whole.trans (congrArg _ (finishStep_of_fault fault))⟩,
    fun quiet => check.trans (interruptCheck_of_quiet (s := z) quiet)⟩

/-- Settles O9: the check's own cascade, with the idle cycle in its place. -/
theorem interruptCheck : Obligations.InterruptCheck := by
  intro s ok
  have due : (irqLine s.pending && !s.cpu.i) = true ↔
      (s.pending.irqApu = true ∨ s.pending.irqDmc = true ∨ s.pending.irqMapper = true) ∧ s.cpu.i = false := by
    simp [irqLine, or_assoc]
  rw [step_of_canStep ok]
  simp only [stepRunning, idles, Machine.interruptCheck, due]
  by_cases reset : s.pending.reset = true
  · simp only [reset, Bool.not_true, Bool.and_false, Bool.false_eq_true, ↓reduceIte]
  by_cases halted : s.cpu.halted = true
  · simp only [reset, halted, Bool.not_false, Bool.and_self, Bool.false_eq_true, ↓reduceIte]
  simp only [reset, halted, Bool.false_and, Bool.false_eq_true, ↓reduceIte]
  split
  · rfl
  · split <;> rfl

end Sys2Proof.Certificates

namespace Sys2Proof.Machine

/-! ## The beam and the flags through the stages of a dot (61_ppu.md R920–R937) -/

/-- Where the beam stands, with the frame's parity (R920, R921). -/
def Ppu.beam (p : Ppu) : Int × Nat × Bool := (p.scanline, p.dot, p.oddFrame)

/-- The beam, `frameAvailable` and the flags of PPUSTATUS. -/
def Ppu.flags (p : Ppu) : (Int × Nat × Bool) × Bool × Bool × Bool × Bool :=
  (p.beam, p.frameAvailable, p.vblank, p.spr0Hit, p.sprOverflow)

@[simp] theorem bgStage_flags (d : Nat) (p : Ppu) : (bgStage d p).flags = p.flags := by
  unfold bgStage; split <;> rfl

@[simp] theorem fetchStage_flags (s : State) (pre : Bool) (d : Nat) (p : Ppu) : (fetchStage s pre d p).flags = p.flags := by
  unfold fetchStage; split <;> rfl

@[simp] theorem spriteStage_flags (s : State) (y d : Nat) (p : Ppu) : (spriteStage s y d p).flags = p.flags := by
  unfold spriteStage spriteFetch
  simp only
  repeat' split
  all_goals rfl

@[simp] theorem preRenderSprites_flags (d : Nat) (p : Ppu) : (preRenderSprites d p).flags = p.flags := by
  unfold preRenderSprites
  simp only
  repeat' split
  all_goals rfl

/-- After the flags' own clock the pre-render line moves none of them (R937). -/
theorem preRenderDot_flags (s : State) (d : Nat) (p : Ppu) : (preRenderDot s d p).flags = (clearFlagsStage d p).flags := by
  simp only [preRenderDot, preRenderSprites_flags, fetchStage_flags, bgStage_flags]

/-- The beam, vblank and `frameAvailable` are those before, and the sprite flags are only set. -/
structure FlagsGrow (p q : Ppu) : Prop where
  beam           : q.beam = p.beam
  frameAvailable : q.frameAvailable = p.frameAvailable
  vblank         : q.vblank = p.vblank
  spr0Hit        : p.spr0Hit = true → q.spr0Hit = true
  sprOverflow    : p.sprOverflow = true → q.sprOverflow = true

theorem FlagsGrow.of_flags_eq {p q : Ppu} (h : q.flags = p.flags) : FlagsGrow p q := by
  simp only [Ppu.flags, Prod.mk.injEq] at h
  obtain ⟨beam, frameAvailable, vblank, spr0Hit, sprOverflow⟩ := h
  exact ⟨beam, frameAvailable, vblank, spr0Hit.trans, sprOverflow.trans⟩

theorem FlagsGrow.trans {p q r : Ppu} (h : FlagsGrow p q) (g : FlagsGrow q r) : FlagsGrow p r :=
  ⟨g.beam.trans h.beam, g.frameAvailable.trans h.frameAvailable, g.vblank.trans h.vblank, g.spr0Hit ∘ h.spr0Hit,
    g.sprOverflow ∘ h.sprOverflow⟩

theorem pixelStage_flagsGrow (y d : Nat) (p : Ppu) : FlagsGrow p (pixelStage y d p) := by
  unfold pixelStage
  split
  · exact ⟨rfl, rfl, rfl, fun hit => by simp [outputPixel, hit], id⟩
  · exact .of_flags_eq rfl

theorem evaluateStage_flagsGrow (bug : Bool) (y d : Nat) (p : Ppu) : FlagsGrow p (evaluateStage bug y d p) := by
  unfold evaluateStage
  repeat' split
  · exact ⟨rfl, rfl, rfl, id, fun full => by simp [evaluateSprites, full]⟩
  · exact .of_flags_eq rfl
  · exact .of_flags_eq rfl

theorem visibleDot_flagsGrow (s : State) (y d : Nat) (p : Ppu) : FlagsGrow p (visibleDot s y d p) :=
  ((((FlagsGrow.of_flags_eq (bgStage_flags d p)).trans (pixelStage_flagsGrow y d _)).trans
    (.of_flags_eq (fetchStage_flags s false d _))).trans (evaluateStage_flagsGrow _ y d _)).trans
    (.of_flags_eq (spriteStage_flags s y d _))

/-! ## The events of a dot by line -/

theorem lineOf_preRender {n : Int} (h : lineOf n = .preRender) : n < 0 := by
  unfold lineOf at h
  split at h
  · exact Int.negSucc_lt_zero _
  · split at h <;> cases h

/-- Entering vblank (R935). -/
theorem dotEvents_vblankStart {s : State} (line : s.ppu.scanline = 241) (dot : s.ppu.dot = 1) :
    dotEvents s = { s.ppu with vblank := true, frameAvailable := true } := by
  have start : vblankStart s.ppu = true := by simp [vblankStart, line, dot]
  have idle : lineOf s.ppu.scanline = .idle 241 := by rw [line]; rfl
  simp only [dotEvents, idle, start, ↓reduceIte]

/-- Dot 1 of the pre-render line clears the three flags (R937). -/
theorem dotEvents_clear {s : State} (line : s.ppu.scanline = -1) (dot : s.ppu.dot = 1) :
    (dotEvents s).flags = (s.ppu.beam, s.ppu.frameAvailable, false, false, false) := by
  have pre : lineOf s.ppu.scanline = .preRender := by rw [line]; rfl
  have cleared : clearFlagsStage s.ppu.dot s.ppu = { s.ppu with vblank := false, spr0Hit := false, sprOverflow := false } :=
    if_pos dot
  simp only [dotEvents, pre, preRenderDot_flags, cleared]
  rfl

/-- At no other dot do vblank and `frameAvailable` change. -/
theorem dotEvents_flagsGrow {s : State} (first : -1 ≤ s.ppu.scanline) (start : ¬(s.ppu.scanline = 241 ∧ s.ppu.dot = 1))
    (clear : ¬(s.ppu.scanline = -1 ∧ s.ppu.dot = 1)) : FlagsGrow s.ppu (dotEvents s) := by
  unfold dotEvents
  split
  next pre =>
    have dot : s.ppu.dot ≠ 1 := fun dot => clear ⟨by have := lineOf_preRender pre; omega, dot⟩
    exact .of_flags_eq (by rw [preRenderDot_flags, clearFlagsStage, if_neg dot])
  next y visible => exact visibleDot_flagsGrow s y _ _
  next n idle =>
    rw [if_neg (by simpa [vblankStart] using start)]
    exact .of_flags_eq rfl

/-- The events of a dot leave the beam where it is. -/
theorem dotEvents_beam (s : State) : (dotEvents s).beam = s.ppu.beam := by
  unfold dotEvents
  split
  · have kept : (clearFlagsStage s.ppu.dot s.ppu).beam = s.ppu.beam := by unfold clearFlagsStage; split <;> rfl
    exact (congrArg Prod.fst (preRenderDot_flags s _ _)).trans kept
  · exact (visibleDot_flagsGrow s _ _ _).beam
  · split <;> rfl

/-! ## The beam's advance (R921) -/

theorem lastLine_eq (r : Region) : lastLine r = if r = .ntsc then 260 else 310 := by cases r <;> rfl

theorem renderingOn_iff (p : Ppu) : renderingOn p = true ↔ p.mask.getLsbD 3 = true ∨ p.mask.getLsbD 4 = true :=
  Bool.or_eq_true_iff

/-- The beam is at the dot before the one that the odd-frame skip removes. -/
abbrev SkipsDot (r : Region) (p : Ppu) : Prop :=
  r = .ntsc ∧ (p.mask.getLsbD 3 = true ∨ p.mask.getLsbD 4 = true) ∧ p.oddFrame = true ∧ p.scanline = -1 ∧ p.dot = 339

theorem nextDot_eq (r : Region) (p : Ppu) : nextDot r p = if p.dot = 340 ∨ SkipsDot r p then 341 else p.dot + 1 := by
  unfold nextDot
  simp only [renderingOn_iff, Nat.reduceEqDiff]
  by_cases skip : SkipsDot r p
  · rw [if_pos skip, if_pos (.inr skip)]
  · by_cases dot : p.dot = 340
    · rw [if_neg skip, if_pos (.inl dot), dot]
    · rw [if_neg skip, if_neg (not_or.2 ⟨dot, skip⟩)]

/-- The dots of a line are 0 to 340 (R920). -/
theorem nextDot_eq_end_iff (r : Region) (p : Ppu) : nextDot r p = 341 ↔ p.dot = 340 ∨ SkipsDot r p := by
  rw [nextDot_eq]
  split
  next h => exact iff_of_true rfl h
  next h => exact iff_of_false (fun e => h (.inl (Nat.succ.inj e))) h

theorem beamAdvance_dot (r : Region) (p : Ppu) :
    (beamAdvance r p).dot = if p.dot = 340 ∨ SkipsDot r p then 0 else p.dot + 1 := by
  unfold beamAdvance
  simp only [nextDot_eq_end_iff]
  by_cases ends : p.dot = 340 ∨ SkipsDot r p
  · simp only [if_pos ends]
    split <;> rfl
  · simp only [if_neg ends, nextDot_eq]

theorem beamAdvance_scanline {r : Region} {p : Ppu} (last : p.scanline ≤ lastLine r) : (beamAdvance r p).scanline =
    if p.dot = 340 ∨ SkipsDot r p then (if p.scanline = lastLine r then -1 else p.scanline + 1) else p.scanline := by
  have final : lastLine r < p.scanline + 1 ↔ p.scanline = lastLine r := by omega
  unfold beamAdvance
  simp only [nextDot_eq_end_iff, final]
  by_cases ends : p.dot = 340 ∨ SkipsDot r p
  · simp only [if_pos ends]
    split <;> rfl
  · simp only [if_neg ends]

/-- The skip is on the frame's first line, so a frame ends at its last dot. -/
theorem beamAdvance_oddFrame {r : Region} {p : Ppu} (last : p.scanline ≤ lastLine r) : (beamAdvance r p).oddFrame =
    if p.dot = 340 ∧ p.scanline = lastLine r then !p.oddFrame else p.oddFrame := by
  have final : lastLine r < p.scanline + 1 ↔ p.scanline = lastLine r := by omega
  unfold beamAdvance
  simp only [nextDot_eq_end_iff, final]
  by_cases dot : p.dot = 340
  · simp only [dot, true_or, true_and, ↓reduceIte]
    split <;> rfl
  · rw [if_neg fun h : _ ∧ _ => dot h.1]
    split
    next skip =>
      obtain ⟨-, -, -, line, -⟩ := skip.resolve_left dot
      have other : p.scanline ≠ lastLine r := by rw [line]; cases r <;> decide
      rw [if_neg other]
    next => rfl

theorem eq_of_beam_eq {p q : Ppu} (h : q.beam = p.beam) :
    q.scanline = p.scanline ∧ q.dot = p.dot ∧ q.oddFrame = p.oddFrame := by
  simpa only [Ppu.beam, Prod.mk.injEq] using h

/-- The advance goes by what the beam and PPUMASK are before the dot's events. -/
theorem skipsDot_dotEvents (r : Region) (s : State) : SkipsDot r (dotEvents s) = SkipsDot r s.ppu := by
  obtain ⟨line, dot, odd⟩ := eq_of_beam_eq (dotEvents_beam s)
  obtain ⟨-, mask⟩ := Prod.mk.inj (dotEvents_control s)
  rw [SkipsDot, line, dot, odd, mask]

/-- Where the beam goes from any dot of the frame (R921). -/
theorem ppuDot_beam {s : State} (last : s.ppu.scanline ≤ lastLine s.region) :
    ((ppuDot s).ppu.dot = if s.ppu.dot = 340 ∨ SkipsDot s.region s.ppu then 0 else s.ppu.dot + 1)
    ∧ ((ppuDot s).ppu.scanline = if s.ppu.dot = 340 ∨ SkipsDot s.region s.ppu then
        (if s.ppu.scanline = lastLine s.region then -1 else s.ppu.scanline + 1) else s.ppu.scanline)
    ∧ (ppuDot s).ppu.oddFrame =
        if s.ppu.dot = 340 ∧ s.ppu.scanline = lastLine s.region then !s.ppu.oddFrame else s.ppu.oddFrame := by
  obtain ⟨line, dot, odd⟩ := eq_of_beam_eq (dotEvents_beam s)
  have last' : (dotEvents s).scanline ≤ lastLine s.region := line ▸ last
  simp only [← line, ← dot, ← odd, ← skipsDot_dotEvents]
  exact ⟨beamAdvance_dot _ _, beamAdvance_scanline last', beamAdvance_oddFrame last'⟩

/-- The advance moves the beam only. -/
theorem beamAdvance_flags (r : Region) (p : Ppu) : (beamAdvance r p).flags.2 = p.flags.2 := by
  unfold beamAdvance
  repeat' split
  all_goals rfl

theorem ppuDot_flags (s : State) : (ppuDot s).ppu.frameAvailable = (dotEvents s).frameAvailable
    ∧ (ppuDot s).ppu.vblank = (dotEvents s).vblank ∧ (ppuDot s).ppu.spr0Hit = (dotEvents s).spr0Hit
    ∧ (ppuDot s).ppu.sprOverflow = (dotEvents s).sprOverflow := by
  have kept := beamAdvance_flags s.region (dotEvents s)
  simp only [Ppu.flags, Prod.mk.injEq] at kept
  exact kept

theorem ppuDot_nmi (s : State) :
    (ppuDot s).pending.nmi = (s.pending.nmi || (vblankStart s.ppu && s.ppu.ctrl.getLsbD 7)) := rfl

theorem vblankStart_iff (p : Ppu) : vblankStart p = true ↔ p.scanline = 241 ∧ p.dot = 1 := by
  simp only [vblankStart, Bool.and_eq_true, decide_eq_true_eq]

/-- At no dot but that of R935 do `frameAvailable` and NMI change. -/
theorem ppuDot_of_not_vblankStart {s : State} (first : -1 ≤ s.ppu.scanline) (h : ¬(s.ppu.scanline = 241 ∧ s.ppu.dot = 1)) :
    (ppuDot s).ppu.frameAvailable = s.ppu.frameAvailable ∧ (ppuDot s).pending.nmi = s.pending.nmi := by
  have other : vblankStart s.ppu = false := by rw [← Bool.not_eq_true, vblankStart_iff]; exact h
  refine ⟨(ppuDot_flags s).1.trans ?_, by rw [ppuDot_nmi, other, Bool.false_and, Bool.or_false]⟩
  by_cases clear : s.ppu.scanline = -1 ∧ s.ppu.dot = 1
  · exact congrArg (fun flags => flags.2.1) (dotEvents_clear clear.1 clear.2)
  · exact (dotEvents_flagsGrow first h clear).frameAvailable

/-! ## The mapper's tick (R945) -/

theorem ticksMapper_iff (p : Ppu) : ticksMapper p = true ↔ p.dot = 260 ∧ 0 ≤ p.scanline ∧ p.scanline ≤ 239
    ∧ (p.mask.getLsbD 3 = true ∨ p.mask.getLsbD 4 = true) := by
  simp only [ticksMapper, Bool.and_eq_true, decide_eq_true_eq, renderingOn_iff]
  tauto

theorem mapperTick_other {m : Mapper} (h : ∀ r, m.chip ≠ .mmc3 r) : mapperTick m = m ∧ mapperTickIrq m = false := by
  unfold mapperTick mapperTickIrq
  cases chip : m.chip with
  | mmc3 r => exact absurd chip (h r)
  | _ => exact ⟨rfl, rfl⟩

/-! ## The dots of a CPU cycle (60_exceptions.md R856) -/

theorem ppuDots_eq_iterate (n : Nat) (s : State) : ppuDots n s = ppuDot^[n] s := by
  induction n generalizing s with
  | zero => rfl
  | succ n ih => exact ih (ppuDot s)

theorem dotsPerCycle_eq (r : Region) : ∀ k < 5, dotsPerCycle r k = if r = .pal ∧ k % 5 = 4 then 4 else 3 := by
  cases r <;> decide

/-- Five PAL cycles are sixteen dots, from any phase. -/
theorem palDots_sum : ∀ k < 5, ((List.range 5).map fun i => if (k + i) % 5 = 4 then 4 else 3).sum = 16 := by
  decide

/-! ## What raises NMI (61_ppu.md R936) -/

theorem ppuWrite_pending (s : State) (a : BitVec 14) (v : Byte) : (ppuWrite s a v).pending = s.pending := by
  unfold ppuWrite
  simp only
  repeat' split
  all_goals rfl

theorem ppuRegWrite_pending (s : State) {r : Nat} (v : Byte) (h : r ≠ 0) : (ppuRegWrite s r v).pending = s.pending := by
  unfold ppuRegWrite
  split
  case h_1 => contradiction
  case h_7 => exact ppuWrite_pending _ _ _
  all_goals rfl

theorem apuWriteIrq_nmi (r : Nat) (v : Byte) (p : Pending) : (apuWriteIrq r v p).nmi = p.nmi := by
  unfold apuWriteIrq
  repeat' split
  all_goals rfl

theorem mapperWriteIrq_nmi (m : Mapper) (a : Word) (p : Pending) : (mapperWriteIrq m a p).nmi = p.nmi := by
  unfold mapperWriteIrq
  repeat' split
  all_goals rfl

/-- Of the CPU's writes only one to PPUCTRL can raise NMI. -/
theorem cpuWrite_nmi_of_not_ctrl (s : State) {a : Word} (v : Byte)
    (h : ¬(0x2000 ≤ a.toNat ∧ a.toNat < 0x4000 ∧ a.toNat % 8 = 0)) : (cpuWrite s a v).pending.nmi = s.pending.nmi := by
  unfold cpuWrite
  simp only
  repeat' split
  · rfl
  · rw [ppuRegWrite_pending s v (by omega)]
  · simp only [apuWriteIrq_nmi]
  · rfl
  · rfl
  · rfl
  · rfl
  · exact mapperWriteIrq_nmi _ a _

/-- A PPUCTRL write raises NMI where it turns bit 7 on during vblank (R905). -/
theorem cpuWrite_nmi_of_ctrl (s : State) {a : Word} (v : Byte) (h : 0x2000 ≤ a.toNat) (h' : a.toNat < 0x4000)
    (reg : a.toNat % 8 = 0) : (cpuWrite s a v).pending.nmi =
      (s.pending.nmi || (v.getLsbD 7 && !s.ppu.ctrl.getLsbD 7 && s.ppu.vblank)) := by
  rw [cpuWrite_ppu v h h', reg]
  rfl

end Sys2Proof.Machine

namespace Sys2Proof.Certificates

open Machine

/-- Settles O55: a dot is its events, which leave the beam (`dotEvents_beam`) and move the flags at two dots only
(`dotEvents_flagsGrow`), and then the beam's advance; a CPU cycle is the APU's and then the dots of its phase. -/
theorem frameTiming : Obligations.FrameTiming := by
  refine ⟨fun s range => ?_, fun s => ?_, fun m => mapperTick_other, fun s phase => ?_,
    fun s => congrArg State.palPhase (power_eq s), fun s a v off => ?_⟩
  · intro t p last skip
    obtain ⟨dot, scanline, odd⟩ := ppuDot_beam range.last
    rw [lastLine_eq] at scanline odd
    obtain ⟨available, vblank, hit, overflow⟩ := ppuDot_flags s
    refine ⟨dot, scanline, odd, fun ⟨line, dot⟩ => ?_, fun ⟨line, dot⟩ => ?_,
      ppuDot_of_not_vblankStart range.first, fun start clear => ?_⟩
    · rw [dotEvents_vblankStart line dot] at available vblank
      refine ⟨vblank, available, ?_⟩
      rw [ppuDot_nmi, (vblankStart_iff p).2 ⟨line, dot⟩, Bool.true_and]
    · have cleared := dotEvents_clear line dot
      simp only [Ppu.flags, Prod.mk.injEq] at cleared
      obtain ⟨-, -, vblank', hit', overflow'⟩ := cleared
      exact ⟨vblank.trans vblank', hit.trans hit', overflow.trans overflow'⟩
    · have grow := dotEvents_flagsGrow range.first start clear
      exact ⟨vblank.trans grow.vblank, fun h => hit.trans (grow.spr0Hit h), fun h => overflow.trans (grow.sprOverflow h)⟩
  · intro ticked
    refine ⟨?_, ?_⟩
    · show (if ticksMapper s.ppu then mapperTick s.mapper else s.mapper) = _
      simp only [ticksMapper_iff, ticked]
    · show (s.pending.irqMapper || (ticksMapper s.ppu && mapperTickIrq s.mapper)) = true ↔ _
      simp only [Bool.or_eq_true, Bool.and_eq_true, ticksMapper_iff, ticked]
  · intro dots
    have count : dotsPerCycle s.region s.palPhase = dots s.palPhase := dotsPerCycle_eq s.region _ phase
    refine ⟨?_, rfl, rfl, rfl, fun pal => ⟨?_, ?_⟩⟩
    · rw [tick, ppuDots_eq_iterate, count]
    · rw [tick, ppuDots_palPhase]
      show nextPhase s.region s.palPhase = _
      rw [pal]
      rfl
    · simp only [dots, pal, true_and]
      exact palDots_sum _ phase
  · by_cases ctrl : 0x2000 ≤ a.toNat ∧ a.toNat < 0x4000 ∧ a.toNat % 8 = 0
    · obtain ⟨low, high, reg⟩ := ctrl
      rw [cpuWrite_nmi_of_ctrl s v low high reg, off]
      simp [low, high, reg, and_assoc]
    · rw [cpuWrite_nmi_of_not_ctrl s v ctrl, off]
      simp only [Bool.false_eq_true, false_iff]
      exact fun ⟨low, high, reg, _⟩ => ctrl ⟨low, high, reg⟩

end Sys2Proof.Certificates

namespace Sys2Proof.Machine

/-! ## OAMADDR with rendering off (61_ppu.md R954) -/

theorem renderingOn_eq_of_control {p q : Ppu} (h : q.control = p.control) : renderingOn q = renderingOn p := by
  obtain ⟨-, mask⟩ := Prod.mk.inj h
  rw [renderingOn, renderingOn, mask]

@[simp] theorem bgStage_oamAddr (d : Nat) (p : Ppu) : (bgStage d p).oamAddr = p.oamAddr := by
  unfold bgStage; split <;> rfl

@[simp] theorem pixelStage_oamAddr (y d : Nat) (p : Ppu) : (pixelStage y d p).oamAddr = p.oamAddr := by
  unfold pixelStage; split <;> rfl

@[simp] theorem fetchStage_oamAddr (s : State) (pre : Bool) (d : Nat) (p : Ppu) :
    (fetchStage s pre d p).oamAddr = p.oamAddr := by
  unfold fetchStage; split <;> rfl

@[simp] theorem evaluateStage_oamAddr (bug : Bool) (y d : Nat) (p : Ppu) :
    (evaluateStage bug y d p).oamAddr = p.oamAddr := by
  unfold evaluateStage
  repeat' split
  all_goals rfl

@[simp] theorem clearFlagsStage_oamAddr (d : Nat) (p : Ppu) : (clearFlagsStage d p).oamAddr = p.oamAddr := by
  unfold clearFlagsStage; split <;> rfl

theorem spriteStage_of_off (s : State) (y d : Nat) {p : Ppu} (off : renderingOn p = false) : spriteStage s y d p = p := by
  simp only [spriteStage, off, Bool.false_and, Bool.false_eq_true, ↓reduceIte]

theorem preRenderSprites_oamAddr (d : Nat) {p : Ppu} (off : renderingOn p = false) :
    (preRenderSprites d p).oamAddr = p.oamAddr := by
  have cleared : (if d = 257 then clearSprites p else p).oamAddr = p.oamAddr
      ∧ (if d = 257 then clearSprites p else p).control = p.control := by
    split <;> exact ⟨rfl, rfl⟩
  simp only [preRenderSprites, renderingOn_eq_of_control cleared.2, off, Bool.false_and, Bool.false_eq_true, ↓reduceIte,
    cleared.1]

theorem ppuDot_oamAddr {s : State} (off : renderingOn s.ppu = false) : (ppuDot s).ppu.oamAddr = s.ppu.oamAddr := by
  have advance (r : Region) (p : Ppu) : (beamAdvance r p).oamAddr = p.oamAddr := by
    unfold beamAdvance
    repeat' split
    all_goals rfl
  refine (advance _ _).trans ?_
  unfold dotEvents
  split
  · rw [preRenderDot, preRenderSprites_oamAddr _ ((renderingOn_eq_of_control (p := s.ppu) (by simp)).trans off)]
    simp
  · rw [visibleDot, spriteStage_of_off _ _ _ ((renderingOn_eq_of_control (p := s.ppu) (by simp)).trans off)]
    simp
  · split <;> rfl

/-- Rendering is off, and OAMADDR is a. -/
structure OamAddrHeld (a : Byte) (s : State) : Prop where
  off  : renderingOn s.ppu = false
  addr : s.ppu.oamAddr = a

namespace OamAddrHeld

variable {a : Byte} {s : State} (h : OamAddrHeld a s)
include h

theorem ppuDots (n : Nat) : OamAddrHeld a (ppuDots n s) := by
  induction n generalizing s with
  | zero => exact h
  | succ n ih =>
    exact ih ⟨(renderingOn_eq_of_control (ppuDot_control s)).trans h.off, (ppuDot_oamAddr h.off).trans h.addr⟩

theorem tick : OamAddrHeld a (tick s) := ppuDots (s := apuTick s) ⟨h.off, h.addr⟩ _

theorem cpuRead (b : Word) : OamAddrHeld a (cpuRead s b).2 := by
  refine ⟨(renderingOn_eq_of_control (cpuRead_control s b)).trans h.off, Eq.trans ?_ h.addr⟩
  unfold Machine.cpuRead ppuRegRead ppuStatusRead ppuDataRead apuStatusRead inputPortRead prgRamRead prgRomRead drawOpenBus
  simp only
  repeat' split
  all_goals rfl

theorem cycleRead (b : Word) : OamAddrHeld a (cycleRead s b).2 := (h.cpuRead b).tick

theorem oamDataWrite (v : Byte) : OamAddrHeld (a + 1) (oamDataWrite s v) :=
  ⟨h.off, congrArg (· + 1) h.addr⟩

end OamAddrHeld

/-! ## OAM DMA (60_exceptions.md R841) -/

/-- What an OAM DMA leaves of memory: everything but OAM and the PPU's latches. -/
structure SameButOam (s t : State) : Prop where
  board   : SameBoard s t
  banking : SameBanking s.mapper t.mapper
  ram     : t.ram = s.ram
  prgRam  : t.prgRam = s.prgRam
  oamDma  : t.oamDma = s.oamDma

theorem SameButOam.refl (s : State) : SameButOam s s := ⟨.refl s, .refl _, rfl, rfl, rfl⟩

theorem SameButOam.trans {s t u : State} (h : SameButOam s t) (g : SameButOam t u) : SameButOam s u :=
  ⟨h.board.trans g.board, h.banking.trans g.banking, g.ram.trans h.ram, g.prgRam.trans h.prgRam, g.oamDma.trans h.oamDma⟩

theorem SameMemory.butOam {s t : State} (h : SameMemory s t) : SameButOam s t :=
  ⟨h.board, h.banking, h.ram, h.prgRam, h.oamDma⟩

theorem SameButOam.memByte {s t : State} (h : SameButOam s t) (a : Word) : memByte t a = memByte s a :=
  memByte_eq h.board h.banking (fun _ => by rw [h.ram]) (fun _ _ => by rw [h.prgRam])

theorem oamDataWrite_same (s : State) (v : Byte) : SameButOam s (oamDataWrite s v) :=
  ⟨⟨rfl, rfl, rfl, rfl⟩, .refl _, rfl, rfl, rfl⟩

theorem oamDmaByte_same (page : Byte) (k : Nat) (s : State) : SameButOam s (oamDmaByte page k s) :=
  ((cycleRead_same s _).butOam.trans (oamDataWrite_same _ _)).trans (tick_same _).butOam

theorem oamDmaByte_cpu (page : Byte) (k : Nat) (s : State) : (oamDmaByte page k s).cpu = s.cpu :=
  (tick_cpu _).trans (cycleRead_cpu s _)

theorem oamDmaByte_cycles (page : Byte) (k : Nat) (s : State) : (oamDmaByte page k s).cycles = s.cycles + 2 :=
  (tick_cycles _).trans (congrArg (· + 1) (cycleRead_cycles s _))

/-- The byte read is stored at OAMADDR. -/
theorem oamDmaByte_oam (page : Byte) (k : Nat) {s : State} (off : renderingOn s.ppu = false) :
    (oamDmaByte page k s).ppu.oam =
      sparseWrite s.ppu.oam s.ppu.oamAddr.toNat (cpuRead s (wordOf (BitVec.ofNat 8 k) page)).1 := by
  let r := cycleRead s (wordOf (BitVec.ofNat 8 k) page)
  have oam : r.2.ppu.oam = s.ppu.oam := (cycleRead_same s _).video.oam
  have addr : r.2.ppu.oamAddr = s.ppu.oamAddr := ((OamAddrHeld.mk off rfl).cycleRead _).addr
  rw [← oam, ← addr]
  exact (tick_same _).video.oam

/-- After the first n bytes of a page's transfer from state s: with rendering off byte k stands at OAMADDR + k. -/
structure OamFilled (page : Byte) (s : State) (n : Nat) (t : State) : Prop where
  same   : SameButOam s t
  cpu    : t.cpu = s.cpu
  cycles : t.cycles = s.cycles + 2 * n
  held   : renderingOn s.ppu = false → OamAddrHeld (s.ppu.oamAddr + BitVec.ofNat 8 n) t
  bytes  : renderingOn s.ppu = false → ∀ k < n, ∀ b, memByte s (wordOf (BitVec.ofNat 8 k) page) = some b →
    sparseRead t.ppu.oam (s.ppu.oamAddr + BitVec.ofNat 8 k).toNat = b

theorem OamFilled.zero (page : Byte) (s : State) : OamFilled page s 0 s where
  same := .refl s
  cpu := rfl
  cycles := rfl
  held off := ⟨off, (BitVec.add_zero _).symm⟩
  bytes _ k hk := absurd hk (Nat.not_lt_zero k)

/-- Within the 256 bytes of a page no cell of OAM is named twice. -/
theorem oamCell_ne (a : Byte) {j k : Nat} (hj : j < k) (hk : k < 256) :
    (a + BitVec.ofNat 8 j).toNat ≠ (a + BitVec.ofNat 8 k).toNat := by
  rw [BitVec.toNat_add, BitVec.toNat_add, BitVec.toNat_ofNat, BitVec.toNat_ofNat]
  omega

theorem OamFilled.succ {page : Byte} {s t : State} {n : Nat} (h : OamFilled page s n t) (hn : n < 256) :
    OamFilled page s (n + 1) (oamDmaByte page n t) where
  same := h.same.trans (oamDmaByte_same page n t)
  cpu := (oamDmaByte_cpu page n t).trans h.cpu
  cycles := by rw [oamDmaByte_cycles, h.cycles]; omega
  held off := by
    have next : s.ppu.oamAddr + BitVec.ofNat 8 (n + 1) = s.ppu.oamAddr + BitVec.ofNat 8 n + 1 := by
      rw [BitVec.ofNat_add, BitVec.add_assoc]; rfl
    rw [next]
    exact (((h.held off).cycleRead _).oamDataWrite _).tick
  bytes off k hk b hb := by
    obtain ⟨off', addr⟩ := h.held off
    rw [oamDmaByte_oam page n off', addr, sparseRead_write]
    obtain earlier | rfl := Nat.lt_succ_iff_lt_or_eq.1 hk
    · rw [if_neg (oamCell_ne _ earlier hn)]
      exact h.bytes off k earlier b hb
    · rw [if_pos rfl]
      exact cpuRead_fst ((h.same.memByte _).trans hb)

/-- A transfer's remaining bytes complete it. -/
theorem oamDmaBytes_filled {page : Byte} {s t : State} {n : Nat} (hn : n ≤ 256) (h : OamFilled page s (256 - n) t) :
    OamFilled page s 256 (oamDmaBytes page n t) := by
  induction n generalizing t with
  | zero => exact h
  | succ n ih =>
    have here : 256 - (n + 1) = 255 - n := by omega
    have next : 255 - n + 1 = 256 - n := by omega
    rw [here] at h
    exact ih (by omega) (next ▸ h.succ (by omega))

end Sys2Proof.Machine

namespace Sys2Proof.Certificates

open Machine

/-- Settles O58: each of the 256 bytes takes two cycles and goes to the cell after the last one's (`OamFilled.succ`). -/
theorem oamDma : Obligations.OamDma := by
  refine ⟨fun s v => cpuWrite_dma v rfl, fun s => oamDmaRun_of_none, fun s page request => ?_⟩
  intro t
  let z : State := { s with oamDma := none }
  have filled : OamFilled page z 256 t := by
    have run : t = oamDmaBytes page 256 z := by simp only [t, oamDmaRun, request, z]
    rw [run]
    exact oamDmaBytes_filled le_rfl (.zero page z)
  obtain ⟨⟨board, -, ram, prgRam, done⟩, cpu, cycles, held, bytes⟩ := filled
  refine ⟨done, cpu, cycles, ram, prgRam, ⟨board.cart, board.params, board.present, board.regionOverride⟩,
    fun off => ⟨(held off).addr.trans (BitVec.add_zero _), fun k b hb => ?_⟩⟩
  have key := bytes off k.toNat k.isLt b
  rw [BitVec.ofNat_toNat, BitVec.setWidth_eq] at key
  exact key hb

end Sys2Proof.Certificates

namespace Sys2Proof.Machine

/-! ## The sprite units through the stages of a dot (61_ppu.md R951) -/

@[simp] theorem bgStage_spr (d : Nat) (p : Ppu) : (bgStage d p).spr = p.spr := by
  unfold bgStage; split <;> rfl

@[simp] theorem fetchStage_spr (s : State) (pre : Bool) (d : Nat) (p : Ppu) : (fetchStage s pre d p).spr = p.spr := by
  unfold fetchStage; split <;> rfl

@[simp] theorem clearFlagsStage_spr (d : Nat) (p : Ppu) : (clearFlagsStage d p).spr = p.spr := by
  unfold clearFlagsStage; split <;> rfl

@[simp] theorem beamAdvance_spr (r : Region) (p : Ppu) : (beamAdvance r p).spr = p.spr := by
  unfold beamAdvance
  repeat' split
  all_goals rfl

theorem pixelStage_spr_length (y d : Nat) (p : Ppu) : (pixelStage y d p).spr.length = p.spr.length := by
  unfold pixelStage
  split
  · exact List.length_map _
  · rfl

theorem spriteFetch_spr_length (s : State) (y d : Nat) (p : Ppu) : (spriteFetch s y d p).spr.length = p.spr.length := by
  unfold spriteFetch
  simp only
  repeat' split
  · rfl
  · exact List.length_set
  · exact List.length_set
  · rfl

theorem spriteStage_spr_length (s : State) (y d : Nat) (p : Ppu) : (spriteStage s y d p).spr.length = p.spr.length := by
  unfold spriteStage
  split
  · exact spriteFetch_spr_length s y d p
  · rfl

/-- An evaluation leaves the first eight entries at most. -/
theorem evaluateStage_spr_length_le (bug : Bool) (y d : Nat) {p : Ppu} (h : p.spr.length ≤ 8) :
    (evaluateStage bug y d p).spr.length ≤ 8 := by
  unfold evaluateStage
  repeat' split
  · simp only [evaluateSprites, List.length_map, List.length_take]
    exact Nat.min_le_left 8 _
  · exact Nat.zero_le 8
  · exact h

theorem preRenderSprites_spr (d : Nat) (p : Ppu) : (preRenderSprites d p).spr = if d = 257 then [] else p.spr := by
  unfold preRenderSprites
  simp only
  repeat' split
  all_goals rfl

theorem dotEvents_spr_length_le {s : State} (h : s.ppu.spr.length ≤ 8) : (dotEvents s).spr.length ≤ 8 := by
  unfold dotEvents
  split
  · rw [preRenderDot, preRenderSprites_spr, fetchStage_spr, bgStage_spr, clearFlagsStage_spr]
    split
    · exact Nat.zero_le 8
    · exact h
  · rw [visibleDot, spriteStage_spr_length]
    refine evaluateStage_spr_length_le _ _ _ ?_
    rw [fetchStage_spr, pixelStage_spr_length, bgStage_spr]
    exact h
  · split <;> exact h

/-! ## The beam in range -/

/-- The beam, the sprite units and the PAL phase are those before, on the same board. -/
structure SameBeam (s t : State) : Prop where
  board : SameBoard s t
  beam  : t.ppu.beam = s.ppu.beam
  spr   : t.ppu.spr = s.ppu.spr
  phase : t.palPhase = s.palPhase

theorem State.BeamInRange.of_same {s t : State} (h : s.BeamInRange) (same : SameBeam s t) : t.BeamInRange := by
  obtain ⟨line, dot, -⟩ := eq_of_beam_eq same.beam
  exact ⟨line ▸ h.first, line ▸ same.board.region ▸ h.last, dot ▸ h.dot, same.spr ▸ h.sprites, same.phase ▸ h.phase⟩

theorem cpuRead_sameBeam (s : State) (a : Word) : SameBeam s (cpuRead s a).2 := by
  refine ⟨(cpuRead_same s a).board, ?_, ?_, ?_⟩
  all_goals
    unfold cpuRead ppuRegRead ppuStatusRead ppuDataRead apuStatusRead inputPortRead prgRamRead prgRomRead drawOpenBus
    simp only
    repeat' split
    all_goals rfl

theorem ppuWrite_sameBeam (s : State) (a : BitVec 14) (v : Byte) : SameBeam s (ppuWrite s a v) := by
  unfold ppuWrite
  simp only
  repeat' split
  all_goals exact ⟨⟨rfl, rfl, rfl, rfl⟩, rfl, rfl, rfl⟩

theorem ppuRegWrite_sameBeam (s : State) (r : Nat) (v : Byte) : SameBeam s (ppuRegWrite s r v) := by
  unfold ppuRegWrite
  split
  case h_5 => unfold ppuScrollWrite; split <;> exact ⟨⟨rfl, rfl, rfl, rfl⟩, rfl, rfl, rfl⟩
  case h_6 => unfold ppuAddrWrite; split <;> exact ⟨⟨rfl, rfl, rfl, rfl⟩, rfl, rfl, rfl⟩
  case h_7 =>
    obtain ⟨⟨cart, params, present, regionOverride⟩, beam, spr, phase⟩ := ppuWrite_sameBeam s (s.ppu.v.setWidth 14) v
    exact ⟨⟨cart, params, present, regionOverride⟩, beam, spr, phase⟩
  all_goals exact ⟨⟨rfl, rfl, rfl, rfl⟩, rfl, rfl, rfl⟩

theorem cpuWrite_sameBeam (s : State) (a : Word) (v : Byte) : SameBeam s (cpuWrite s a v) := by
  unfold cpuWrite
  simp only
  repeat' split
  case isFalse.isTrue => exact ppuRegWrite_sameBeam s _ v
  all_goals exact ⟨⟨rfl, rfl, rfl, rfl⟩, rfl, rfl, rfl⟩

/-- The beam goes from a dot of the frame to a dot of the frame (R921). -/
theorem ppuDot_beamInRange {s : State} (h : s.BeamInRange) : (ppuDot s).BeamInRange := by
  obtain ⟨first, last, dot, sprites, phase⟩ := h
  obtain ⟨dot', line', -⟩ := ppuDot_beam last
  have region : (ppuDot s).region = s.region := (ppuDot_same s).board.region
  have end_ : (-1 : Int) ≤ lastLine s.region := by cases s.region <;> decide
  refine ⟨?_, ?_, ?_, ?_, by rwa [ppuDot_palPhase]⟩
  · rw [line']; split_ifs <;> omega
  · rw [line', region]; split_ifs <;> omega
  · rw [dot']
    split_ifs with wraps
    · exact Nat.zero_le 340
    · have : s.ppu.dot ≠ 340 := fun e => wraps (.inl e)
      omega
  · exact (congrArg List.length (beamAdvance_spr _ _)).trans_le (dotEvents_spr_length_le sprites)

theorem nextPhase_lt (r : Region) {k : Nat} (h : k < 5) : nextPhase r k < 5 := by
  cases r
  · exact h
  · exact Nat.mod_lt _ (by decide)

theorem tick_beamInRange {s : State} (h : s.BeamInRange) : (tick s).BeamInRange := by
  have dots (n : Nat) {t : State} (ht : t.BeamInRange) : (ppuDots n t).BeamInRange := by
    induction n generalizing t with
    | zero => exact ht
    | succ n ih => exact ih (ppuDot_beamInRange ht)
  exact dots _ ⟨h.first, h.last, h.dot, h.sprites, nextPhase_lt _ h.phase⟩

/-- Every part of a step keeps the beam in range. -/
theorem beamInRange_keptByParts : KeptByParts State.BeamInRange where
  tick _ := tick_beamInRange
  read s a h := h.of_same (cpuRead_sameBeam s a)
  write s a v h := h.of_same (cpuWrite_sameBeam s a v)
  cpu _ _ h := h.of_same ⟨⟨rfl, rfl, rfl, rfl⟩, rfl, rfl, rfl⟩
  oamByte _ _ h := h.of_same ⟨⟨rfl, rfl, rfl, rfl⟩, rfl, rfl, rfl⟩
  dmaDone _ h := h.of_same ⟨⟨rfl, rfl, rfl, rfl⟩, rfl, rfl, rfl⟩
  stall _ h := h.of_same ⟨⟨rfl, rfl, rfl, rfl⟩, rfl, rfl, rfl⟩
  dmcByte _ _ _ h := h.of_same ⟨⟨rfl, rfl, rfl, rfl⟩, rfl, rfl, rfl⟩
  nmiTaken _ h := h.of_same ⟨⟨rfl, rfl, rfl, rfl⟩, rfl, rfl, rfl⟩
  warm _ h := h.of_same ⟨⟨rfl, rfl, rfl, rfl⟩, rfl, rfl, rfl⟩
  zero _ h := h.of_same ⟨⟨rfl, rfl, rfl, rfl⟩, rfl, rfl, rfl⟩

end Sys2Proof.Machine

namespace Sys2Proof.Certificates

open Machine

/-- Settles O43: a dot moves the beam inside the frame (`ppuDot_beamInRange`), and no other part of a step moves it. -/
theorem stepKeepsBeam : Obligations.StepKeepsBeam :=
  fun _ _ hs h => beamInRange_keptByParts.step hs h

end Sys2Proof.Certificates

namespace Sys2Proof.Machine

/-! ## The frame sequencer's cycle (62_apu.md R1020) -/

/-- The frame clocks of a cycle: where both fall on it, the half-frame clock follows the quarter-frame clock. -/
def frameClocks (r : Region) (a : Apu) : Apu :=
  let b := if givesQuarter (seqTable r) a.mode5 (a.cycle + 1) then quarterFrame a else a
  if givesHalf (seqTable r) a.mode5 (a.cycle + 1) then halfFrame b else b

/-- A clock of the frame sequencer reaches the envelopes, the counters and the sweeps alone. -/
theorem frameClocks_kept (r : Region) (a : Apu) : (frameClocks r a).mode5 = a.mode5
    ∧ (frameClocks r a).seqRestart = a.seqRestart ∧ (frameClocks r a).irqInhibit = a.irqInhibit
    ∧ (frameClocks r a).noise.lfsr = a.noise.lfsr := by
  unfold frameClocks
  simp only
  repeat' split
  all_goals exact ⟨rfl, rfl, rfl, rfl⟩

theorem seqClock_eq (r : Region) (a : Apu) : seqClock r a = { frameClocks r a with
    cycle := if a.cycle + 1 = seqPeriod (seqTable r) a.mode5 ∨ a.seqRestart = true then 0 else a.cycle + 1
    seqRestart := false } := by
  have quarter (p : Prop) [Decidable p] : (if p then quarterFrame a else a).mode5 = a.mode5 := by split <;> rfl
  obtain ⟨mode5, restart, -, -⟩ := frameClocks_kept r a
  rw [← mode5, ← restart]
  simp only [seqClock, quarter]
  rfl

theorem apuCycle_cycle (r : Region) (a : Apu) : (apuCycle r a).cycle =
    if a.cycle + 1 = seqPeriod (seqTable r) a.mode5 ∨ a.seqRestart = true then 0 else a.cycle + 1 := by
  show (seqClock r a).cycle = _
  rw [seqClock_eq]

theorem apuCycle_mode5 (r : Region) (a : Apu) : (apuCycle r a).mode5 = a.mode5 := by
  show (seqClock r a).mode5 = _
  rw [seqClock_eq]
  exact (frameClocks_kept r a).1

/-! ## The sequencer and the noise register in range -/

/-- The APU record's part of `State.SequencerInRange`. -/
structure Apu.SequencerInRange (r : Region) (a : Apu) : Prop where
  cycle : a.seqRestart = true ∨ a.cycle < seqPeriod (seqTable r) a.mode5
  noise : a.noise.lfsr ≠ 0

theorem sequencerInRange_iff (s : State) : s.SequencerInRange ↔ s.apu.SequencerInRange s.region :=
  ⟨fun ⟨cycle, noise⟩ => ⟨cycle, noise⟩, fun ⟨cycle, noise⟩ => ⟨cycle, noise⟩⟩

theorem SameBoard.sequencerInRange {s t : State} (board : SameBoard s t) (apu : t.apu.SequencerInRange s.region) :
    t.SequencerInRange :=
  (sequencerInRange_iff t).2 (board.region ▸ apu)

theorem seqPeriod_pos (r : Region) (mode5 : Bool) : 0 < seqPeriod (seqTable r) mode5 := by
  cases r <;> cases mode5 <;> decide

/-- A shift register that the shift empties held a lone 1, which feeds back a 1 (R1035). -/
theorem lfsrClock_ne_zero (mode : Bool) {l : BitVec 15} (h : l ≠ 0) : lfsrClock mode l ≠ 0 := by
  intro zero
  obtain ⟨shifted, fed⟩ := BitVec.or_eq_zero_iff.1 zero
  have small : l.toNat / 2 = 0 := by
    have := congrArg BitVec.toNat shifted
    rwa [BitVec.toNat_ushiftRight, Nat.shiftRight_eq_div_pow] at this
  have one : l = 1 := by bv_omega
  subst one
  cases mode <;> cases fed

theorem noiseTimer_lfsr_ne_zero (r : Region) {n : Noise} (h : n.lfsr ≠ 0) : (noiseTimer r n).lfsr ≠ 0 := by
  unfold noiseTimer
  split
  · exact lfsrClock_ne_zero _ h
  · exact h

namespace Apu.SequencerInRange

variable {r : Region} {a : Apu} (h : a.SequencerInRange r)
include h

/-- A cycle inside the sequence counts on or starts the sequence again. -/
theorem apuCycle : (apuCycle r a).SequencerInRange r := by
  refine ⟨.inr ?_, noiseTimer_lfsr_ne_zero r ?_⟩
  · rw [apuCycle_cycle, apuCycle_mode5]
    split
    next => exact seqPeriod_pos r a.mode5
    next goesOn =>
      obtain ⟨more, restart⟩ := not_or.1 goesOn
      have := h.cycle.resolve_left restart
      omega
  · rw [seqClock_eq]
    exact (frameClocks_kept r a).2.2.2 ▸ h.noise

/-- A 0x4017 write sets the mode and has the sequencer restart (R1008); no other register reaches it. -/
theorem apuWrite (k : Nat) (v : Byte) : (apuWrite a k v).SequencerInRange r := by
  have counter : (frameCounterWrite a v).seqRestart = true ∧ (frameCounterWrite a v).noise.lfsr = a.noise.lfsr := by
    unfold frameCounterWrite
    simp only
    split <;> exact ⟨rfl, rfl⟩
  have noise (k : Nat) : (noiseWrite k a.noise v).lfsr = a.noise.lfsr := by
    unfold noiseWrite
    split <;> rfl
  unfold Machine.apuWrite
  repeat' split
  · exact ⟨h.cycle, h.noise⟩
  · exact ⟨h.cycle, h.noise⟩
  · exact ⟨h.cycle, h.noise⟩
  · exact ⟨h.cycle, (noise _).symm ▸ h.noise⟩
  · exact ⟨h.cycle, h.noise⟩
  · exact ⟨h.cycle, h.noise⟩
  · exact ⟨.inl counter.1, counter.2.symm ▸ h.noise⟩
  · exact h

end Apu.SequencerInRange

theorem cpuWrite_sequencerInRange {s : State} (h : s.SequencerInRange) (a : Word) (v : Byte) :
    (cpuWrite s a v).SequencerInRange := by
  have apu := (sequencerInRange_iff s).1 h
  refine (cpuWrite_board s a v).sequencerInRange ?_
  obtain same | ⟨k, reg⟩ := cpuWrite_apu_cases s a v
  · rwa [same]
  · rw [reg]
    exact apu.apuWrite k v

/-- Every part of a step keeps the sequencer inside its sequence and the noise register alive. -/
theorem sequencerInRange_keptByParts : KeptByParts State.SequencerInRange where
  tick s h := (tick_same s).board.sequencerInRange (tick_apu s ▸ ((sequencerInRange_iff s).1 h).apuCycle)
  read s a h := (cpuRead_same s a).board.sequencerInRange (cpuRead_apu s a ▸ (sequencerInRange_iff s).1 h)
  write _ a v h := cpuWrite_sequencerInRange h a v
  cpu _ _ h := ⟨h.cycle, h.noise⟩
  oamByte _ _ h := ⟨h.cycle, h.noise⟩
  dmaDone _ h := ⟨h.cycle, h.noise⟩
  stall _ h := ⟨h.cycle, h.noise⟩
  dmcByte _ _ _ h := ⟨h.cycle, h.noise⟩
  nmiTaken _ h := ⟨h.cycle, h.noise⟩
  warm s h := ⟨.inr (seqPeriod_pos s.region s.apu.mode5), h.noise⟩
  zero _ h := ⟨h.cycle, h.noise⟩

end Sys2Proof.Machine

namespace Sys2Proof.Certificates

open Machine

/-- Settles O46: a cycle counts inside the sequence (`Apu.SequencerInRange.apuCycle`), a write to 0x4017 has the sequencer
restart, and no clock of the shift register empties it (`lfsrClock_ne_zero`). -/
theorem stepKeepsSequencer : Obligations.StepKeepsSequencer :=
  fun _ _ hs h => sequencerInRange_keptByParts.step hs h

end Sys2Proof.Certificates

namespace Sys2Proof.Machine

/-! ## The scroll address by its fields (61_ppu.md R903) -/

theorem append_toNat {m n : Nat} (x : BitVec m) (y : BitVec n) : (x ++ y).toNat = x.toNat * 2 ^ n + y.toNat := by
  rw [BitVec.toNat_append, ← Nat.shiftLeft_add_eq_or_of_lt y.isLt, Nat.shiftLeft_eq]

theorem scrollOf_toNat (fy : BitVec 3) (nt : BitVec 2) (cy cx : BitVec 5) :
    (scrollOf fy nt cy cx).toNat = fy.toNat * 4096 + nt.toNat * 1024 + cy.toNat * 32 + cx.toNat := by
  simp only [scrollOf, append_toNat]
  omega

theorem coarseX_toNat (v : BitVec 15) : (coarseX v).toNat = v.toNat % 32 := by
  rw [coarseX, extractLsb'_toNat_eq]; omega

theorem coarseY_toNat (v : BitVec 15) : (coarseY v).toNat = v.toNat / 32 % 32 := extractLsb'_toNat_eq v 5 5

theorem ntSelect_toNat (v : BitVec 15) : (ntSelect v).toNat = v.toNat / 1024 % 4 := extractLsb'_toNat_eq v 10 2

theorem fineY_toNat (v : BitVec 15) : (fineY v).toNat = v.toNat / 4096 := by
  rw [fineY, extractLsb'_toNat_eq]; omega

theorem scrollOf_fields (v : BitVec 15) : scrollOf (fineY v) (ntSelect v) (coarseY v) (coarseX v) = v := by
  apply BitVec.eq_of_toNat_eq
  rw [scrollOf_toNat, fineY_toNat, ntSelect_toNat, coarseY_toNat, coarseX_toNat]
  omega

section
variable (a a' : BitVec 3) (b b' : BitVec 2) (c c' d d' : BitVec 5)

theorem scrollOf_and : scrollOf a b c d &&& scrollOf a' b' c' d' = scrollOf (a &&& a') (b &&& b') (c &&& c') (d &&& d') := by
  show (a ++ b ++ c ++ d : BitVec (3 + 2 + 5 + 5)) &&& (a' ++ b' ++ c' ++ d') = _
  rw [BitVec.and_append, BitVec.and_append, BitVec.and_append]
  rfl

theorem scrollOf_or : scrollOf a b c d ||| scrollOf a' b' c' d' = scrollOf (a ||| a') (b ||| b') (c ||| c') (d ||| d') := by
  show (a ++ b ++ c ++ d : BitVec (3 + 2 + 5 + 5)) ||| (a' ++ b' ++ c' ++ d') = _
  rw [BitVec.or_append, BitVec.or_append, BitVec.or_append]
  rfl

theorem scrollOf_xor : scrollOf a b c d ^^^ scrollOf a' b' c' d' = scrollOf (a ^^^ a') (b ^^^ b') (c ^^^ c') (d ^^^ d') := by
  show (a ++ b ++ c ++ d : BitVec (3 + 2 + 5 + 5)) ^^^ (a' ++ b' ++ c' ++ d') = _
  rw [BitVec.xor_append, BitVec.xor_append, BitVec.xor_append]
  rfl

end

/-- A mask that takes whole fields of a scroll address, and of the nametable select what the mask m does. -/
theorem and_scrollMask (v : BitVec 15) (fy cy cx : Bool) (m : BitVec 2) :
    v &&& scrollOf (if fy then 7 else 0) m (if cy then 31 else 0) (if cx then 31 else 0) =
      scrollOf (if fy then fineY v else 0) (ntSelect v &&& m) (if cy then coarseY v else 0) (if cx then coarseX v else 0) := by
  have three (x : BitVec 3) : x &&& 7 = x := BitVec.and_allOnes
  have five (x : BitVec 5) : x &&& 31 = x := BitVec.and_allOnes
  conv_lhs => rw [← scrollOf_fields v, scrollOf_and]
  congr 1
  · cases fy
    · exact BitVec.and_zero
    · exact three _
  · cases cy
    · exact BitVec.and_zero
    · exact five _
  · cases cx
    · exact BitVec.and_zero
    · exact five _

/-! ## The scroll increments and copies in exact arithmetic (R942, R943) -/

theorem coarseX_eq_iff (v : BitVec 15) : coarseX v = 31 ↔ v.toNat % 32 = 31 := by
  rw [← BitVec.toNat_inj, coarseX_toNat]; rfl

theorem coarseY_eq_iff (v : BitVec 15) {n : Nat} (h : n < 32) : coarseY v = BitVec.ofNat 5 n ↔ v.toNat / 32 % 32 = n := by
  rw [← BitVec.toNat_inj, coarseY_toNat, BitVec.toNat_ofNat]; omega

theorem fineY_ne_iff (v : BitVec 15) : fineY v ≠ 7 ↔ v.toNat / 4096 < 7 := by
  have := v.isLt
  rw [Ne, ← BitVec.toNat_inj, fineY_toNat]
  show ¬_ = 7 ↔ _
  omega

theorem coarseXInc_eq (v : BitVec 15) :
    coarseXInc v = if v.toNat % 32 = 31 then (v &&& 0x7FE0) ^^^ 0x0400 else v + 1 := by
  unfold coarseXInc
  simp only [coarseX_eq_iff]
  split
  next wraps =>
    have masked := and_scrollMask v true true false 3
    have three : ntSelect v &&& 3 = ntSelect v := BitVec.and_allOnes
    calc _ = scrollOf (fineY v) (ntSelect v) (coarseY v) 0 ^^^ scrollOf 0 1 0 0 := by
          rw [scrollOf_xor]; simp
      _ = _ := by rw [three] at masked; exact congrArg (· ^^^ 0x0400) masked.symm
  next goesOn =>
    apply BitVec.eq_of_toNat_eq
    have next : (coarseX v + 1).toNat = v.toNat % 32 + 1 := by
      have := coarseX_toNat v
      bv_omega
    rw [scrollOf_toNat, fineY_toNat, ntSelect_toNat, coarseY_toNat, next]
    bv_omega

theorem yInc_eq (v : BitVec 15) : yInc v =
    if v.toNat / 4096 < 7 then v + 0x1000
    else if v.toNat / 32 % 32 = 29 then (v &&& 0x0C1F) ^^^ 0x0800
    else if v.toNat / 32 % 32 = 31 then v &&& 0x0C1F
    else (v &&& 0x0FFF) + 32 := by
  have three : ntSelect v &&& 3 = ntSelect v := BitVec.and_allOnes
  have columns : v &&& 0x0C1F = scrollOf 0 (ntSelect v) 0 (coarseX v) := by
    rw [← three]; exact and_scrollMask v false false true 3
  have tile : v &&& 0x0FFF = scrollOf 0 (ntSelect v) (coarseY v) (coarseX v) := by
    rw [← three]; exact and_scrollMask v false true true 3
  have row29 : coarseY v = 29 ↔ v.toNat / 32 % 32 = 29 := coarseY_eq_iff v (by decide)
  have row31 : coarseY v = 31 ↔ v.toNat / 32 % 32 = 31 := coarseY_eq_iff v (by decide)
  unfold yInc
  simp only [fineY_ne_iff, row29, row31, columns, tile]
  split_ifs
  · apply BitVec.eq_of_toNat_eq
    have next : (fineY v + 1).toNat = v.toNat / 4096 + 1 := by
      have := fineY_toNat v
      bv_omega
    rw [scrollOf_toNat, ntSelect_toNat, coarseY_toNat, coarseX_toNat, next]
    bv_omega
  · calc _ = scrollOf 0 (ntSelect v) 0 (coarseX v) ^^^ scrollOf 0 2 0 0 := by rw [scrollOf_xor]; simp
      _ = _ := rfl
  · rfl
  · apply BitVec.eq_of_toNat_eq
    have next : (coarseY v + 1).toNat = v.toNat / 32 % 32 + 1 := by
      have := coarseY_toNat v
      bv_omega
    rw [BitVec.toNat_add, scrollOf_toNat, scrollOf_toNat, next, ntSelect_toNat, coarseY_toNat, coarseX_toNat]
    bv_omega

theorem copyHorizontal_eq (v t : BitVec 15) : copyHorizontal v t = (v &&& 0x7BE0) ||| (t &&& 0x041F) := by
  calc _ = scrollOf (fineY v) (ntSelect v &&& 2) (coarseY v) 0 ||| scrollOf 0 (ntSelect t &&& 1) 0 (coarseX t) := by
        rw [scrollOf_or, copyHorizontal]; simp
    _ = _ := congrArg₂ (· ||| ·) (and_scrollMask v true true false 2).symm (and_scrollMask t false false true 1).symm

theorem copyVertical_eq (v t : BitVec 15) : copyVertical v t = (v &&& 0x041F) ||| (t &&& 0x7BE0) := by
  calc _ = scrollOf 0 (ntSelect v &&& 1) 0 (coarseX v) ||| scrollOf (fineY t) (ntSelect t &&& 2) (coarseY t) 0 := by
        rw [scrollOf_or, copyVertical]; simp
    _ = _ := congrArg₂ (· ||| ·) (and_scrollMask v false false true 1).symm (and_scrollMask t true true false 2).symm

end Sys2Proof.Machine

namespace Sys2Proof.Certificates

open Machine

/-- Settles O52: each operation on the fields of v and t is one of masks and sums on the 15-bit numbers. -/
theorem scrollArithmetic : Obligations.ScrollArithmetic :=
  fun v t => ⟨coarseXInc_eq v, yInc_eq v, copyHorizontal_eq v t, copyVertical_eq v t⟩

end Sys2Proof.Certificates

namespace Sys2Proof.Machine

/-! ## Fields of a byte as numbers -/

theorem extractLsb'_eq_ofNat {w : Nat} (x : BitVec w) (i n : Nat) : x.extractLsb' i n = BitVec.ofNat n (x.toNat / 2 ^ i) := by
  apply BitVec.eq_of_toNat_eq
  rw [extractLsb'_toNat_eq, BitVec.toNat_ofNat]

theorem lowBits_eq_ofNat {w : Nat} (x : BitVec w) (n : Nat) : x.extractLsb' 0 n = BitVec.ofNat n x.toNat := by
  rw [extractLsb'_eq_ofNat, Nat.pow_zero, Nat.div_one]

/-! ## PPUSCROLL and PPUADDR (61_ppu.md R909, R910) -/

section
variable {p : Ppu} (v : Byte)

theorem ppuScrollWrite_first (h : p.w = false) :
    ppuScrollWrite p v = { p with t := (ppuScrollWrite p v).t, x := BitVec.ofNat 3 v.toNat, w := true }
    ∧ (ppuScrollWrite p v).t.toNat = p.t.toNat / 32 * 32 + v.toNat / 8 := by
  simp only [ppuScrollWrite, h, Bool.false_eq_true, ↓reduceIte, lowBits_eq_ofNat, true_and, scrollOf_toNat, fineY_toNat,
    ntSelect_toNat, coarseY_toNat, extractLsb'_toNat_eq]
  omega

theorem ppuScrollWrite_second (h : p.w = true) :
    ppuScrollWrite p v = { p with t := (ppuScrollWrite p v).t, w := false }
    ∧ (ppuScrollWrite p v).t.toNat
      = v.toNat % 8 * 4096 + p.t.toNat / 1024 % 4 * 1024 + v.toNat / 8 * 32 + p.t.toNat % 32 := by
  simp only [ppuScrollWrite, h, ↓reduceIte, true_and, scrollOf_toNat, ntSelect_toNat, coarseX_toNat, extractLsb'_toNat_eq]
  omega

theorem ppuAddrWrite_first (h : p.w = false) :
    ppuAddrWrite p v = { p with t := (ppuAddrWrite p v).t, w := true }
    ∧ (ppuAddrWrite p v).t.toNat = v.toNat % 64 * 256 + p.t.toNat % 256 := by
  simp only [ppuAddrWrite, h, Bool.false_eq_true, ↓reduceIte, true_and, append_toNat, extractLsb'_toNat_eq]
  have top : (0 : BitVec 1).toNat = 0 := rfl
  omega

theorem ppuAddrWrite_second (h : p.w = true) :
    ppuAddrWrite p v = { p with t := (ppuAddrWrite p v).t, v := (ppuAddrWrite p v).t, w := false }
    ∧ (ppuAddrWrite p v).t.toNat = p.t.toNat / 256 * 256 + v.toNat := by
  simp only [ppuAddrWrite, h, ↓reduceIte, true_and, append_toNat, extractLsb'_toNat_eq]
  omega

end

/-! ## PPUDATA (R911) -/

theorem onFetchLine_iff (p : Ppu) : onFetchLine p = true ↔ -1 ≤ p.scanline ∧ p.scanline ≤ 239 := by
  rw [onFetchLine, Bool.and_eq_true, decide_eq_true_eq, decide_eq_true_eq]

theorem ppuDataIncrement_eq (p : Ppu) : ppuDataIncrement p =
    if (p.mask.getLsbD 3 = true ∨ p.mask.getLsbD 4 = true) ∧ -1 ≤ p.scanline ∧ p.scanline ≤ 239 then yInc (coarseXInc p.v)
    else p.v + (if p.ctrl.getLsbD 2 then 32 else 1) := by
  simp only [ppuDataIncrement, Bool.and_eq_true, renderingOn_iff, onFetchLine_iff]

theorem ppuDataRead_below {s : State} (h : (s.ppu.v.setWidth 14 : BitVec 14).toNat < 0x3F00) : ppuDataRead s =
    (s.ppu.readBuf, { s with ppu := { s.ppu with
      readBuf := ppuRead s (s.ppu.v.setWidth 14), v := ppuDataIncrement s.ppu } }) := if_pos h

/-- The palette entry is read under two free bits (D52). -/
theorem under_open_bus_toNat (free : Byte) (x : BitVec 6) : ((free &&& 0xC0) ||| x.setWidth 8).toNat % 64 = x.toNat := by
  have low : ((free &&& 0xC0) ||| x.setWidth 8).setWidth 6 = x := by
    have masked : ((0xC0 : Byte).setWidth 6 : BitVec 6) = 0 := rfl
    rw [BitVec.setWidth_or, BitVec.setWidth_and, masked, BitVec.setWidth_setWidth_of_le _ (by decide), BitVec.setWidth_eq]
    simp
  exact (BitVec.toNat_setWidth ..).symm.trans (congrArg BitVec.toNat low)

theorem ppuDataRead_palette {s : State} (h : 0x3F00 ≤ (s.ppu.v.setWidth 14 : BitVec 14).toNat) :
    (ppuDataRead s).1.toNat % 64 = (sparseRead s.ppu.palette (paletteIndex (s.ppu.v.setWidth 14 : BitVec 14).toNat)).toNat
    ∧ (ppuDataRead s).2 = { s.setOpenBus (s.draws.openBus + 1) with ppu := { s.ppu with
        readBuf := ppuRead s (s.ppu.v.setWidth 14 - 0x1000), v := ppuDataIncrement s.ppu } } := by
  have notBelow : ¬(s.ppu.v.setWidth 14 : BitVec 14) < 0x3F00 := Nat.not_lt.2 h
  have entry := ppuRead_palette s h
  simp only [ppuDataRead, notBelow, ↓reduceIte, entry]
  exact ⟨under_open_bus_toNat _ _, rfl⟩

/-- With rendering off a read after a read gives the byte that stood at v (R911). -/
theorem ppuDataRead_twice {s : State} (off : renderingOn s.ppu = false) (low : s.ppu.v.toNat % 0x4000 < 0x3EE0) :
    (ppuDataRead s).1 = s.ppu.readBuf
    ∧ (ppuDataRead (ppuDataRead s).2).1 = ppuRead s (s.ppu.v.setWidth 14) := by
  have here : (s.ppu.v.setWidth 14 : BitVec 14).toNat < 0x3F00 := by
    rw [BitVec.toNat_setWidth]; omega
  have next : ((ppuDataIncrement s.ppu).setWidth 14 : BitVec 14).toNat < 0x3F00 := by
    have moved : ppuDataIncrement s.ppu = s.ppu.v + (if s.ppu.ctrl.getLsbD 2 then 32 else 1) := by
      simp only [ppuDataIncrement, off, Bool.false_and, Bool.false_eq_true, ↓reduceIte]
    rw [moved, BitVec.toNat_setWidth, BitVec.toNat_add]
    split
    · show (_ + 32) % _ % _ < _; omega
    · show (_ + 1) % _ % _ < _; omega
  refine ⟨ppuDataRead_fst here, ?_⟩
  rw [ppuDataRead_below here]
  exact ppuDataRead_fst next

end Sys2Proof.Machine

namespace Sys2Proof.Certificates

open Machine

/-- Settles O53: at every mirror the access is one of the port's register (`cpuWrite_ppu`, `cpuRead_ppu`). -/
theorem ppuPorts : Obligations.PpuPorts := by
  intro s a v low high
  have write := cpuWrite_ppu (s := s) v low high
  have read (t : State) := cpuRead_ppu t low high
  intro t p rendering moved
  have move : ppuDataIncrement s.ppu = moved := ppuDataIncrement_eq s.ppu
  simp only [t, write, read, ← move]
  refine ⟨fun r w => ?_, fun r w => ?_, fun r w => ?_, fun r w => ?_, fun r => ?_, fun r below => ?_, fun r palette => ?_,
    fun r off below => ?_⟩ <;> rw [r]
  · exact ppuScrollWrite_first v w
  · exact ppuScrollWrite_second v w
  · exact ppuAddrWrite_first v w
  · exact ppuAddrWrite_second v w
  · rfl
  · exact ppuDataRead_below below
  · obtain ⟨entry, rest⟩ := ppuDataRead_palette palette
    exact ⟨entry, _, rest⟩
  · exact ppuDataRead_twice off below

end Sys2Proof.Certificates

namespace Sys2Proof.Machine

/-! ## PPUCTRL and PPUSTATUS (61_ppu.md R905, R906) -/

theorem ppuCtrlWrite_t (s : State) (v : Byte) : (ppuCtrlWrite s v).ppu.t.toNat =
    s.ppu.t.toNat / 4096 * 4096 + v.toNat % 4 * 1024 + s.ppu.t.toNat % 1024 := by
  show (scrollOf (fineY s.ppu.t) (v.extractLsb' 0 2) (coarseY s.ppu.t) (coarseX s.ppu.t)).toNat = _
  rw [scrollOf_toNat, fineY_toNat, coarseY_toNat, coarseX_toNat, extractLsb'_toNat_eq]
  omega

/-- The three flags stand over five free bits (D14). -/
theorem ppuStatusRead_flags (s : State) : (ppuStatusRead s).1.toNat / 32 =
    (if s.ppu.vblank then 4 else 0) + (if s.ppu.spr0Hit then 2 else 0) + (if s.ppu.sprOverflow then 1 else 0) := by
  have free := ((drawOpenBus s).1.extractLsb' 0 5).isLt
  simp only [ppuStatusRead, append_toNat, BitVec.toNat_ofBool]
  cases s.ppu.vblank <;> cases s.ppu.spr0Hit <;> cases s.ppu.sprOverflow <;>
    simp only [Bool.toNat_true, Bool.toNat_false, Bool.false_eq_true, ↓reduceIte] <;> omega

end Sys2Proof.Machine

namespace Sys2Proof.Certificates

open Machine

/-- Settles O54: at every mirror the access is one of the register (`cpuWrite_ppu`, `cpuRead_ppu`). -/
theorem ppuRegisters : Obligations.PpuRegisters := by
  intro s a v low high
  have write := cpuWrite_ppu (s := s) v low high
  have read := cpuRead_ppu s low high
  intro t
  simp only [t, write, read]
  refine ⟨fun r => ?_, fun r => ?_, fun r => ?_, fun r => ?_, fun r => ?_⟩ <;> rw [r]
  · exact ⟨rfl, ppuCtrlWrite_t s v⟩
  · rfl
  · exact ⟨rfl, ppuStatusRead_flags s, s.draws.openBus + 1, rfl⟩
  · rfl
  · exact ⟨rfl, sparseRead_write s.ppu.oam s.ppu.oamAddr.toNat v, rfl⟩

end Sys2Proof.Certificates

namespace Sys2Proof.Machine

/-! ## A dot as one update of the PPU record -/

/-- The background shift registers (61_ppu.md R941). -/
def Background.shifters (b : Background) : BitVec 16 × BitVec 16 × BitVec 16 × BitVec 16 := (b.bgLo, b.bgHi, b.atLo, b.atHi)

/-- The shifters' work of a dot of a fetching line (R941), which rendering switches on. -/
def bgAfter (d : Nat) (p : Ppu) : Background := if renderingOn p then bgClock d p.bg else p.bg

theorem bgStage_eq (d : Nat) (p : Ppu) : bgStage d p = { p with bg := bgAfter d p } := by
  unfold bgStage bgAfter
  split <;> rfl

/-- The fetches fill latches and leave the shift registers (R940). -/
theorem bgFetch_shifters (s : State) (d : Nat) (p : Ppu) : (bgFetch s d p).shifters = p.bg.shifters := by
  unfold bgFetch
  simp only
  split <;> rfl

theorem fetchStage_eq (s : State) (pre : Bool) (d : Nat) (p : Ppu) :
    ∃ b v, fetchStage s pre d p = { p with bg := b, v := v } ∧ b.shifters = p.bg.shifters := by
  unfold fetchStage
  split
  · refine ⟨_, _, rfl, ?_⟩
    split
    · exact bgFetch_shifters s d p
    · rfl
  · exact ⟨p.bg, p.v, rfl, rfl⟩

/-- The background's part of a dot changes the background and v. -/
theorem background_eq (s : State) (pre : Bool) (d : Nat) (p : Ppu) :
    ∃ b v, fetchStage s pre d (bgStage d p) = { p with bg := b, v := v } := by
  obtain ⟨b, v, eq, -⟩ := fetchStage_eq s pre d (bgStage d p)
  exact ⟨b, v, by rw [eq, bgStage_eq]⟩

theorem beamAdvance_eq (r : Region) (p : Ppu) :
    ∃ n line odd, beamAdvance r p = { p with dot := n, scanline := line, oddFrame := odd } := by
  unfold beamAdvance
  repeat' split
  all_goals exact ⟨_, _, _, rfl⟩

/-- What is left of a dot's events after the beam's advance. -/
theorem ppuDot_ppu (s : State) :
    ∃ n line odd, (ppuDot s).ppu = { dotEvents s with dot := n, scanline := line, oddFrame := odd } :=
  beamAdvance_eq s.region (dotEvents s)

theorem dotEvents_visible {s : State} {y : Nat} (line : s.ppu.scanline = (y : Int)) (hy : y < 240) :
    dotEvents s = visibleDot s y s.ppu.dot s.ppu := by
  have visible : lineOf s.ppu.scanline = .visible y := by rw [line]; exact if_pos hy
  simp only [dotEvents, visible]

theorem dotEvents_preRender {s : State} (line : s.ppu.scanline = -1) : dotEvents s = preRenderDot s s.ppu.dot s.ppu := by
  have pre : lineOf s.ppu.scanline = .preRender := by rw [line]; rfl
  simp only [dotEvents, pre]

theorem pixelStage_of_blank (y : Nat) {d : Nat} (p : Ppu) (h : 256 < d) : pixelStage y d p = p := if_neg (by omega)

/-! ## Sprite evaluation (61_ppu.md R951, R952) -/

theorem rowInRange_eq (y h : Nat) (b : Byte) :
    rowInRange y h b = (decide (0 ≤ (y : Int) - b.toNat) && decide ((y : Int) - b.toNat < h)) := by
  rw [rowInRange, ← Bool.decide_and, ← Bool.decide_and, decide_eq_decide]
  omega

theorem inRangeFrom_eq (oam : Mem) (y h k n : Nat) :
    inRangeFrom oam y h k n = (List.range' n k).filter fun j => rowInRange y h (sparseRead oam (4 * j)) := by
  induction k generalizing n with
  | zero => rfl
  | succ k ih =>
    rw [inRangeFrom, List.range'_succ, List.filter_cons, ih]

/-- Entry 0 is found first, if it is found at all. -/
theorem first_eq_zero_iff (found : Nat → Bool) (k : Nat) :
    ((List.range' 0 (k + 1)).filter found)[0]? = some 0 ↔ 0 ∈ (List.range' 0 (k + 1)).filter found := by
  refine ⟨List.mem_of_getElem?, fun mem => ?_⟩
  rw [List.range'_succ, List.filter_cons, if_pos (List.mem_filter.1 mem).2]
  rfl

/-- The diagonal search reads byte m of the first entry, and of each entry after it the next byte. -/
theorem buggyOverflow_iff (oam : Mem) (y h k n m : Nat) (hm : m < 4) : buggyOverflow oam y h k n m = true ↔
    ∃ i < k, rowInRange y h (oamByte oam (4 * (n + i) + (m + i) % 4)) = true := by
  induction k generalizing n m with
  | zero => simp [buggyOverflow]
  | succ k ih =>
    have later (i : Nat) : 4 * (n + 1 + i) + ((m + 1) % 4 + i) % 4 = 4 * (n + (i + 1)) + (m + (i + 1)) % 4 := by omega
    rw [Nat.exists_lt_succ_left, buggyOverflow]
    simp only [Nat.add_zero, Nat.mod_eq_of_lt hm, ← later, ← ih _ _ (Nat.mod_lt (m + 1) (by decide : 0 < 4))]
    cases rowInRange y h (oamByte oam (4 * n + m)) <;> simp

/-- The search after entry n₀ (R952), over the entries of OAM. -/
theorem buggyOverflow_after (oam : Mem) (y h : Nat) {n₀ : Nat} (hn : n₀ < 64) : buggyOverflow oam y h (63 - n₀) (n₀ + 1) 0 =
    (List.range 64).any fun n => decide (n₀ < n) && rowInRange y h (oamByte oam (4 * n + (n - n₀ - 1) % 4)) := by
  rw [Bool.eq_iff_iff, buggyOverflow_iff _ _ _ _ _ _ (by decide)]
  simp only [List.any_eq_true, List.mem_range, Bool.and_eq_true, decide_eq_true_eq, Nat.zero_add]
  constructor
  · rintro ⟨i, inside, hit⟩
    have back : n₀ + 1 + i - n₀ - 1 = i := by omega
    exact ⟨n₀ + 1 + i, by omega, by omega, back.symm ▸ hit⟩
  · rintro ⟨n, inside, after, hit⟩
    have there : n₀ + 1 + (n - n₀ - 1) = n := by omega
    exact ⟨n - n₀ - 1, by omega, there.symm ▸ hit⟩

/-- The search starts after the eighth entry in range. -/
theorem spriteOverflow_bug_short (oam : Mem) (y h : Nat) {found : List Nat} (few : found.length < 8) :
    spriteOverflow true oam y h found = false := by
  have none : found[7]? = none := List.getElem?_eq_none (by omega)
  simp only [spriteOverflow, none, ↓reduceIte]

theorem spriteOverflow_bug (oam : Mem) (y h : Nat) {found : List Nat} {n₀ : Nat} (eighth : found[7]? = some n₀) :
    spriteOverflow true oam y h found = buggyOverflow oam y h (63 - n₀) (n₀ + 1) 0 := by
  simp only [spriteOverflow, eighth, ↓reduceIte]

/-- Dot 257 of the pre-render line (R951, log 8). -/
theorem preRenderSprites_clear (p : Ppu) :
    (preRenderSprites 257 p).spr = [] ∧ (preRenderSprites 257 p).spr0OnLine = false := by
  refine ⟨(preRenderSprites_spr 257 p).trans (if_pos rfl), ?_⟩
  simp only [preRenderSprites, ↓reduceIte]
  split <;> rfl

/-- Outside the two dots of a slot's fetches its unit stays (R953, log 8). -/
theorem spriteFetch_of_no_fetch (s : State) (y : Nat) {d : Nat} (p : Ppu) (low : (d - 257) % 8 ≠ 4)
    (high : (d - 257) % 8 ≠ 6) : spriteFetch s y d p = p := by
  unfold spriteFetch
  simp only
  split <;> rfl

/-- Dot 257 of a visible line with rendering on (R951). -/
theorem visibleDot_evaluate (s : State) (y : Nat) {p : Ppu} (on : renderingOn p = true) :
    ∃ b v, visibleDot s y 257 p =
      { evaluateSprites s.params.spriteOverflowBug y p with bg := b, v := v, oamAddr := 0 } := by
  obtain ⟨b, v, background⟩ := background_eq s false 257 p
  refine ⟨b, v, ?_⟩
  have on' : renderingOn { p with bg := b, v := v } = true := on
  have on'' : renderingOn (evaluateSprites s.params.spriteOverflowBug y { p with bg := b, v := v }) = true := on
  have sprites : spriteDot 257 = true := rfl
  rw [visibleDot, pixelStage_of_blank _ _ (by decide), background, evaluateStage, if_pos rfl, if_pos on', spriteStage, on'',
    sprites, Bool.and_self, if_pos rfl, spriteFetch_of_no_fetch _ _ _ (by decide) (by decide)]
  rfl

/-- What an evaluation leaves (R951). -/
theorem ppuDot_evaluate {s : State} {y : Nat} (line : s.ppu.scanline = (y : Int)) (hy : y < 240) (dot : s.ppu.dot = 257)
    (on : renderingOn s.ppu = true) :
    let e := evaluateSprites s.params.spriteOverflowBug y s.ppu
    (ppuDot s).ppu.spr = e.spr ∧ (ppuDot s).ppu.spr0OnLine = e.spr0OnLine ∧ (ppuDot s).ppu.sprOverflow = e.sprOverflow := by
  obtain ⟨_, _, _, left⟩ := ppuDot_ppu s
  obtain ⟨_, _, evaluated⟩ := visibleDot_evaluate s y on
  rw [left, dotEvents_visible line hy, dot, evaluated]
  exact ⟨rfl, rfl, rfl⟩

/-! ## Sprite fetches (R953) -/

theorem reverseByte_getLsbD : ∀ b : Byte, ∀ k < 8, (reverseByte b).getLsbD k = b.getLsbD (7 - k) := by
  decide +kernel

/-- A fetched byte as its shifter takes it, bit by bit. -/
theorem spriteByte_getLsbD (u : SpriteUnit) (b : Byte) : ∀ k < 8,
    (spriteByte u b).getLsbD k = b.getLsbD (if u.attr.getLsbD 6 then 7 - k else k) := by
  intro k hk
  unfold spriteByte
  split
  · exact reverseByte_getLsbD b k hk
  · rfl

/-- The row of a sprite's pattern that line y shows (R953). -/
def patternRow (y h : Nat) (u : SpriteUnit) : Nat := if u.attr.getLsbD 7 then h - 1 - (y - u.y.toNat) else y - u.y.toNat

/-- The address of the first pattern byte of a row (R953). -/
def patternAddr (p : Ppu) (y : Nat) (u : SpriteUnit) : Nat :=
  let tile := u.tile.toNat
  let row := patternRow y (spriteHeight p) u
  if p.ctrl.getLsbD 5 then tile % 2 * 0x1000 + (tile / 2 * 2 + row / 8) * 16 + row % 8
  else (if p.ctrl.getLsbD 3 then 0x1000 else 0) + tile * 16 + row

theorem patternRow_lt {y h : Nat} {u : SpriteUnit} (inside : y - u.y.toNat < h) : patternRow y h u < h := by
  unfold patternRow
  split <;> omega

/-- The row as the model's byte. -/
theorem patternRow_byte {y h : Nat} {u : SpriteUnit} (hy : y < 240) (hh : h ≤ 16) (top : u.y.toNat ≤ y)
    (inside : y - u.y.toNat < h) :
    (if u.attr.getLsbD 7 then BitVec.ofNat 8 h - 1 - (BitVec.ofNat 8 y - u.y) else BitVec.ofNat 8 y - u.y : Byte) =
      BitVec.ofNat 8 (patternRow y h u) := by
  unfold patternRow
  split
  · apply BitVec.eq_of_toNat_eq
    bv_omega
  · bv_omega

theorem spriteHeight_eq (p : Ppu) : spriteHeight p = if p.ctrl.getLsbD 5 then 16 else 8 := rfl

theorem spriteHeight_le (p : Ppu) : spriteHeight p ≤ 16 := by
  unfold spriteHeight
  split <;> decide

/-- A tile's pattern has 16 bytes. -/
theorem tile_shiftLeft_toNat (tile : Byte) : ((tile.setWidth 14 : BitVec 14) <<< 4).toNat = tile.toNat * 16 := by
  rw [BitVec.toNat_shiftLeft, BitVec.toNat_setWidth, Nat.shiftLeft_eq]
  omega

theorem spritePatternAddr_eq {p : Ppu} {y : Nat} {u : SpriteUnit} (hy : y < 240) (top : u.y.toNat ≤ y)
    (inside : y - u.y.toNat < spriteHeight p) : spritePatternAddr p y u = BitVec.ofNat 14 (patternAddr p y u) := by
  have row_lt := patternRow_lt inside
  unfold spritePatternAddr patternAddr
  simp only [patternRow_byte hy (spriteHeight_le p) top inside]
  generalize patternRow y (spriteHeight p) u = row at row_lt
  have row_toNat : (BitVec.ofNat 8 row).toNat = row := by
    have := spriteHeight_le p
    rw [BitVec.toNat_ofNat]
    omega
  have tile_lt := u.tile.isLt
  split
  next tall =>
    have half : row < 16 := row_lt.trans_le (spriteHeight_le p)
    have pair : ((u.tile &&& 0xFE) + (if 8 ≤ row then 1 else 0) : Byte).toNat = u.tile.toNat / 2 * 2 + row / 8 := by
      have even : (u.tile &&& 0xFE : Byte).toNat = u.tile.toNat / 2 * 2 := (byte_pair u.tile).1
      split <;> bv_omega
    have fine : (BitVec.ofNat 8 row &&& 7 : Byte).toNat = row % 8 := by
      rw [BitVec.toNat_and, row_toNat]
      exact Nat.and_two_pow_sub_one_eq_mod row 3
    have table : ((if u.tile.getLsbD 0 then 0x1000 else 0 : Nat) : BitVec 14).toNat = u.tile.toNat % 2 * 0x1000 := by
      rw [lowBit_eq]
      rcases Nat.mod_two_eq_zero_or_one u.tile.toNat with even | odd
      · rw [even]; rfl
      · rw [odd]; rfl
    apply BitVec.eq_of_toNat_eq
    rw [row_toNat, BitVec.toNat_add, BitVec.toNat_add, table, tile_shiftLeft_toNat, pair, BitVec.toNat_setWidth, fine,
      BitVec.toNat_ofNat]
    omega
  next short =>
    have table : ((if p.ctrl.getLsbD 3 then 0x1000 else 0 : Nat) : BitVec 14).toNat =
        if p.ctrl.getLsbD 3 then 0x1000 else 0 := by
      split <;> rfl
    apply BitVec.eq_of_toNat_eq
    rw [BitVec.toNat_add, BitVec.toNat_add, table, tile_shiftLeft_toNat, BitVec.toNat_setWidth, row_toNat, BitVec.toNat_ofNat]
    omega

/-- Slot j's fetch of the low pattern byte. -/
theorem spriteFetch_low (s : State) (y : Nat) {p : Ppu} {j : Nat} {u : SpriteUnit} (slot : p.spr[j]? = some u) :
    (spriteFetch s y (261 + 8 * j) p).spr =
      p.spr.set j { u with lo := spriteByte u (ppuRead s (spritePatternAddr p y u)) } := by
  have index : (261 + 8 * j - 257) / 8 = j := by omega
  have phase : (261 + 8 * j - 257) % 8 = 4 := by omega
  simp only [spriteFetch, index, phase, slot]

/-- Slot j's fetch of the high pattern byte. -/
theorem spriteFetch_high (s : State) (y : Nat) {p : Ppu} {j : Nat} {u : SpriteUnit} (slot : p.spr[j]? = some u) :
    (spriteFetch s y (263 + 8 * j) p).spr =
      p.spr.set j { u with hi := spriteByte u (ppuRead s (spritePatternAddr p y u + 8)) } := by
  have index : (263 + 8 * j - 257) / 8 = j := by omega
  have phase : (263 + 8 * j - 257) % 8 = 6 := by omega
  simp only [spriteFetch, index, phase, slot]

/-- At the dots of the sprite fetches after dot 257 the units change by the fetch alone. -/
theorem ppuDot_spriteFetch {s : State} {y : Nat} (line : s.ppu.scanline = (y : Int)) (hy : y < 240)
    (on : renderingOn s.ppu = true) (after : 257 < s.ppu.dot) (last : s.ppu.dot ≤ 320) :
    (ppuDot s).ppu.spr = (spriteFetch s y s.ppu.dot s.ppu).spr := by
  obtain ⟨_, _, _, left⟩ := ppuDot_ppu s
  obtain ⟨b, v, background⟩ := background_eq s false s.ppu.dot s.ppu
  have on' : renderingOn { s.ppu with bg := b, v := v } = true := on
  have sprites : spriteDot s.ppu.dot = true := by
    rw [spriteDot, decide_eq_true after.le, decide_eq_true last, Bool.and_self]
  have units : (spriteFetch s y s.ppu.dot { s.ppu with bg := b, v := v }).spr = (spriteFetch s y s.ppu.dot s.ppu).spr := by
    unfold spriteFetch
    simp only
    repeat' split
    all_goals rfl
  rw [left, dotEvents_visible line hy, visibleDot, pixelStage_of_blank _ _ (by omega), background, evaluateStage,
    if_neg after.ne', spriteStage, on', sprites, Bool.and_self, if_pos rfl]
  exact units

end Sys2Proof.Machine

namespace Sys2Proof.Certificates

open Machine

/-- Settles O56: dot 257 leaves what `evaluateSprites` makes of OAM (`ppuDot_evaluate`), and each fetch loads its slot's
shifter (`ppuDot_spriteFetch`). -/
theorem spriteEvaluation : Obligations.SpriteEvaluation := by
  refine ⟨fun s line dot => ?_, fun s y line hy dot on => ?_, fun s y j u line hy on hj slot => ?_⟩
  · obtain ⟨_, _, _, left⟩ := ppuDot_ppu s
    rw [left, dotEvents_preRender line, dot]
    exact preRenderSprites_clear _
  · intro t h byte inRange found
    obtain ⟨spr, zero, overflow⟩ := ppuDot_evaluate line hy dot on
    have height : h = (spriteHeight s.ppu : Int) := by
      rw [spriteHeight_eq]
      show (if s.ppu.ctrl.getLsbD 5 then 16 else 8 : Int) = _
      split <;> rfl
    have row (b : Byte) : rowInRange y (spriteHeight s.ppu) b = inRange b := by
      rw [rowInRange_eq, ← height]
    have entries : inRangeFrom s.ppu.oam y (spriteHeight s.ppu) 64 0 = found := by
      rw [inRangeFrom_eq, ← List.range_eq_range']
      simp only [row]
      rfl
    have flag : t.sprOverflow = (s.ppu.sprOverflow
        || spriteOverflow s.params.spriteOverflowBug s.ppu.oam y (spriteHeight s.ppu) found) := by
      rw [← entries]; exact overflow
    refine ⟨?_, ?_, fun bug => ?_, fun bug few => ?_, fun bug n₀ eighth => ?_⟩
    · rw [← entries]; exact spr
    · have first : (inRangeFrom s.ppu.oam y (spriteHeight s.ppu) 64 0)[0]? = some 0 ↔ 0 ∈ found := by
        rw [← entries, inRangeFrom_eq]
        exact first_eq_zero_iff _ 63
      exact zero.trans (decide_eq_decide.2 first)
    · rw [flag, bug]
      rfl
    · rw [flag, bug, spriteOverflow_bug_short _ _ _ few, Bool.or_false]
    · have inside : n₀ < 64 := List.mem_range.1 (List.mem_of_mem_filter (List.mem_of_getElem? eighth))
      rw [flag, bug, spriteOverflow_bug _ _ _ eighth, buggyOverflow_after _ _ _ inside]
      simp only [row]
  · intro h top inside row tile addr loaded
    have pattern : spritePatternAddr s.ppu y u = BitVec.ofNat 14 addr := spritePatternAddr_eq hy top inside
    refine ⟨fun dot => ?_, fun dot => ?_⟩
    · refine ⟨_, ?_, spriteByte_getLsbD u _⟩
      rw [ppuDot_spriteFetch line hy on (by omega) (by omega), dot, spriteFetch_low s y slot, pattern]
    · refine ⟨_, ?_, spriteByte_getLsbD u _⟩
      rw [ppuDot_spriteFetch line hy on (by omega) (by omega), dot, spriteFetch_high s y slot, pattern, BitVec.ofNat_add]
      rfl

end Sys2Proof.Certificates

namespace Sys2Proof.Machine

/-! ## The background shifters through the stages of a dot (61_ppu.md R941) -/

@[simp] theorem clearFlagsStage_bg (d : Nat) (p : Ppu) : (clearFlagsStage d p).bg = p.bg := by
  unfold clearFlagsStage; split <;> rfl

@[simp] theorem pixelStage_bg (y d : Nat) (p : Ppu) : (pixelStage y d p).bg = p.bg := by
  unfold pixelStage; split <;> rfl

@[simp] theorem evaluateStage_bg (bug : Bool) (y d : Nat) (p : Ppu) : (evaluateStage bug y d p).bg = p.bg := by
  unfold evaluateStage
  repeat' split
  all_goals rfl

@[simp] theorem spriteStage_bg (s : State) (y d : Nat) (p : Ppu) : (spriteStage s y d p).bg = p.bg := by
  unfold spriteStage spriteFetch
  simp only
  repeat' split
  all_goals rfl

@[simp] theorem preRenderSprites_bg (d : Nat) (p : Ppu) : (preRenderSprites d p).bg = p.bg := by
  unfold preRenderSprites
  simp only
  repeat' split
  all_goals rfl

theorem fetchStage_shifters (s : State) (pre : Bool) (d : Nat) (p : Ppu) :
    (fetchStage s pre d p).bg.shifters = p.bg.shifters := by
  obtain ⟨b, v, eq, same⟩ := fetchStage_eq s pre d p
  rw [eq]
  exact same

/-- On a fetching line a dot leaves of the shifters what their own clock does. -/
theorem ppuDot_shifters {s : State} (first : -1 ≤ s.ppu.scanline) (last : s.ppu.scanline < 240) :
    (ppuDot s).ppu.bg.shifters = (bgAfter s.ppu.dot s.ppu).shifters := by
  obtain ⟨_, _, _, left⟩ := ppuDot_ppu s
  rw [left]
  show (dotEvents s).bg.shifters = _
  obtain pre | ⟨y, line⟩ : s.ppu.scanline = -1 ∨ ∃ y : Nat, s.ppu.scanline = (y : Int) := by
    rcases lt_or_ge s.ppu.scanline 0 with h | h
    · exact .inl (by omega)
    · exact .inr (Int.eq_ofNat_of_zero_le h)
  · have same : bgAfter s.ppu.dot (clearFlagsStage s.ppu.dot s.ppu) = bgAfter s.ppu.dot s.ppu := by
      rw [bgAfter, bgAfter, clearFlagsStage_bg, renderingOn_eq_of_control (clearFlagsStage_control s.ppu.dot s.ppu)]
    rw [dotEvents_preRender pre, preRenderDot, preRenderSprites_bg, fetchStage_shifters, bgStage_eq]
    exact congrArg Background.shifters same
  · rw [dotEvents_visible line (by omega), visibleDot, spriteStage_bg, evaluateStage_bg, fetchStage_shifters, pixelStage_bg,
      bgStage_eq]

/-- One shifter's clock: it shifts and then takes a new low byte. -/
def shifterAfter (d : Nat) (p : Ppu) (w : BitVec 16) (low : Byte) : BitVec 16 :=
  let shifted := if renderingOn p && shiftDot d then w <<< 1 else w
  if renderingOn p && reloadDot d then shifted.extractLsb' 8 8 ++ low else shifted

theorem bgAfter_shifters (d : Nat) (p : Ppu) : (bgAfter d p).shifters =
    (shifterAfter d p p.bg.bgLo p.bg.patLo, shifterAfter d p p.bg.bgHi p.bg.patHi,
     shifterAfter d p p.bg.atLo (spread (p.bg.atBits.getLsbD 0)), shifterAfter d p p.bg.atHi (spread (p.bg.atBits.getLsbD 1))) := by
  unfold bgAfter bgClock shifterAfter
  cases renderingOn p <;> cases shiftDot d <;> cases reloadDot d <;> rfl

theorem shiftDot_iff (d : Nat) : shiftDot d = true ↔ (2 ≤ d ∧ d ≤ 257) ∨ (322 ≤ d ∧ d ≤ 337) := by
  simp only [shiftDot, Bool.or_eq_true, Bool.and_eq_true, decide_eq_true_eq]

theorem reloadDot_iff (d : Nat) : reloadDot d = true ↔ d % 8 = 1 ∧ ((9 ≤ d ∧ d ≤ 257) ∨ d = 329 ∨ d = 337) := by
  simp only [reloadDot, Bool.or_eq_true, Bool.and_eq_true, decide_eq_true_eq, or_assoc]

theorem shifterAfter_toNat (d : Nat) (p : Ppu) (w : BitVec 16) (low : Byte) : (shifterAfter d p w low).toNat =
    (let on := p.mask.getLsbD 3 = true ∨ p.mask.getLsbD 4 = true
     let shifted := if on ∧ ((2 ≤ d ∧ d ≤ 257) ∨ (322 ≤ d ∧ d ≤ 337)) then w.toNat * 2 % 0x10000 else w.toNat
     if on ∧ d % 8 = 1 ∧ ((9 ≤ d ∧ d ≤ 257) ∨ d = 329 ∨ d = 337) then shifted / 256 * 256 + low.toNat else shifted) := by
  have double : (w <<< 1).toNat = w.toNat * 2 % 0x10000 := by rw [BitVec.toNat_shiftLeft, Nat.shiftLeft_eq]
  have upper (x : BitVec 16) : (x.extractLsb' 8 8 ++ low : BitVec (8 + 8)).toNat = x.toNat / 256 * 256 + low.toNat := by
    have := x.isLt
    rw [append_toNat, extractLsb'_toNat_eq]
    omega
  simp only [shifterAfter, Bool.and_eq_true, renderingOn_iff, shiftDot_iff, reloadDot_iff, apply_ite BitVec.toNat, upper, double]

theorem spread_toNat : ∀ bits : BitVec 2,
    (spread (bits.getLsbD 0)).toNat = bits.toNat % 2 * 255 ∧ (spread (bits.getLsbD 1)).toNat = bits.toNat / 2 * 255 := by
  decide

/-! ## Pixels as numbers (R960) -/

theorem getLsbD_toNat {w : Nat} (x : BitVec w) (k : Nat) : (x.getLsbD k).toNat = x.toNat / 2 ^ k % 2 := by
  rw [getLsbD_eq_decide]
  rcases Nat.mod_two_eq_zero_or_one (x.toNat / 2 ^ k) with h | h <;> rw [h] <;> rfl

theorem ofBool_pair_toNat (a b : Bool) : (BitVec.ofBool a ++ BitVec.ofBool b : BitVec (1 + 1)).toNat = 2 * a.toNat + b.toNat := by
  rw [append_toNat, BitVec.toNat_ofBool, BitVec.toNat_ofBool]
  omega

theorem unitPixel_toNat (u : SpriteUnit) :
    (unitPixel u).toNat = if u.x = 0 then 2 * (u.hi.toNat / 128) + u.lo.toNat / 128 else 0 := by
  have top (b : Byte) : (b.getLsbD 7).toNat = b.toNat / 128 := by
    have := b.isLt
    rw [getLsbD_toNat]
    omega
  unfold unitPixel
  split
  · exact (ofBool_pair_toNat _ _).trans (by rw [top, top])
  · rfl

theorem unitPixel_eq_zero_iff (u : SpriteUnit) : unitPixel u = 0 ↔ (unitPixel u).toNat = 0 := BitVec.toNat_inj.symm

theorem frontSprite_eq (us : List SpriteUnit) : frontSprite us = us.find? fun u => decide ((unitPixel u).toNat ≠ 0) := by
  induction us with
  | nil => rfl
  | cons u us ih =>
    simp only [frontSprite, List.find?_cons, ih, unitPixel_eq_zero_iff]
    by_cases clear : (unitPixel u).toNat = 0
    · rw [if_pos clear, decide_eq_false (not_not.2 clear)]
    · rw [if_neg clear, decide_eq_true clear]

/-- The background's address in the palette, the backdrop where its pixel is 0 (R960). -/
def backgroundAddr (p : Ppu) (x : Nat) : Nat :=
  if (shownBg p x).toNat = 0 then 0x3F00 else 0x3F00 + 4 * (bgPixel p).2.toNat + (shownBg p x).toNat

theorem pixelAddr_of_none {p : Ppu} {x : Nat} (h : shownSprite p x = none) : pixelAddr p x = backgroundAddr p x := by
  simp only [pixelAddr, h, backgroundAddr, ← BitVec.toNat_inj]
  rfl

theorem pixelAddr_of_some {p : Ppu} {x : Nat} {u : SpriteUnit} (h : shownSprite p x = some u) : pixelAddr p x =
    if (shownBg p x).toNat ≠ 0 ∧ u.attr.getLsbD 5 = true then backgroundAddr p x
    else 0x3F10 + 4 * (4 + u.attr.toNat % 4) + (unitPixel u).toNat := by
  have palette : spritePalette u = 4 + u.attr.toNat % 4 := by
    rw [spritePalette, extractLsb'_toNat_eq]
    omega
  have zero : shownBg p x = 0 ↔ (shownBg p x).toNat = 0 := BitVec.toNat_inj.symm
  simp only [pixelAddr, h, backgroundAddr, palette, zero]
  split_ifs <;> tauto

/-- With rendering off nothing is shown but the backdrop. -/
theorem pixelAddr_of_off {p : Ppu} (x : Nat) (off : renderingOn p = false) : pixelAddr p x = 0x3F00 := by
  obtain ⟨bg, sprites⟩ := Bool.or_eq_false_iff.1 off
  have none : shownSprite p x = none := by simp only [shownSprite, sprites, Bool.false_and, Bool.false_eq_true, ↓reduceIte]
  have zero : shownBg p x = 0 := by simp only [shownBg, bg, Bool.false_and, Bool.false_eq_true, ↓reduceIte]
  rw [pixelAddr_of_none none, backgroundAddr, zero]
  rfl

theorem spriteZeroHit_iff (p : Ppu) (x : Nat) : spriteZeroHit p x = true ↔
    p.spr0OnLine = true ∧ (∃ u us, p.spr = u :: us ∧ (unitPixel u).toNat ≠ 0) ∧ (bgPixel p).1.toNat ≠ 0
      ∧ p.mask.getLsbD 3 = true ∧ p.mask.getLsbD 4 = true ∧ x ≠ 255
      ∧ ¬(x < 8 ∧ (p.mask.getLsbD 1 = false ∨ p.mask.getLsbD 2 = false)) := by
  have background : (bgPixel p).1 = 0 ↔ (bgPixel p).1.toNat = 0 := BitVec.toNat_inj.symm
  unfold spriteZeroHit
  cases units : p.spr with
  | nil => simp
  | cons u us =>
    have zero : (∃ u' us', u :: us = u' :: us' ∧ (unitPixel u').toNat ≠ 0) ↔ unitPixel u ≠ 0 := by
      rw [Ne, unitPixel_eq_zero_iff]
      exact ⟨fun ⟨_, _, eq, h⟩ => (List.cons.inj eq).1 ▸ h, fun h => ⟨u, us, rfl, h⟩⟩
    rw [zero]
    simp only [background, Bool.and_eq_true, decide_eq_true_eq, Bool.not_eq_true', Bool.and_eq_false_iff,
      decide_eq_false_iff_not, Bool.or_eq_false_iff, Ne, not_and_or, not_or, Bool.not_eq_false', and_assoc,
      Bool.not_eq_false]

/-- Dot x + 1 of visible line y outputs pixel (x, y) after the shifters' clock; the dot's fetches leave the shifters. -/
theorem ppuDot_pixel {s : State} {y x : Nat} (line : s.ppu.scanline = (y : Int)) (hy : y < 240) (dot : s.ppu.dot = x + 1)
    (hx : x < 256) : ∃ b v n l o, (ppuDot s).ppu =
      { outputPixel y x { s.ppu with bg := bgAfter s.ppu.dot s.ppu } with
        bg := b, v := v, dot := n, scanline := l, oddFrame := o } := by
  obtain ⟨n, l, o, left⟩ := ppuDot_ppu s
  obtain ⟨b, v, fetched, -⟩ := fetchStage_eq s false s.ppu.dot (outputPixel y x { s.ppu with bg := bgAfter s.ppu.dot s.ppu })
  have pixel (p : Ppu) : pixelStage y s.ppu.dot p = outputPixel y x p := by
    rw [pixelStage, if_pos (by omega), dot]
    rfl
  have noSprites : spriteDot s.ppu.dot = false := by
    rw [spriteDot, decide_eq_false (by omega : ¬257 ≤ s.ppu.dot), Bool.false_and]
  refine ⟨b, v, n, l, o, ?_⟩
  rw [left, dotEvents_visible line hy, visibleDot, bgStage_eq, pixel, fetched, evaluateStage, if_neg (by omega), spriteStage,
    noSprites, Bool.and_false, if_neg Bool.false_ne_true]

/-- The framebuffer changes at the dots of R901 only. -/
theorem ppuDot_frame {s : State} (h : ¬(0 ≤ s.ppu.scanline ∧ s.ppu.scanline < 240 ∧ 1 ≤ s.ppu.dot ∧ s.ppu.dot ≤ 256)) :
    (ppuDot s).ppu.frame = s.ppu.frame := by
  refine (beamAdvance_frame _ _).trans ?_
  unfold dotEvents
  split
  next => exact preRenderDot_frame s _ _
  next y visible =>
    obtain ⟨hy, line⟩ := lineOf_visible visible
    have blank (p : Ppu) : pixelStage y s.ppu.dot p = p := if_neg (by omega)
    rw [visibleDot, spriteStage_frame, evaluateStage_frame, fetchStage_frame, blank, bgStage_frame]
  next => split <;> rfl

end Sys2Proof.Machine

namespace Sys2Proof.Certificates

open Machine

/-- Settles O57: a pixel's dot is `outputPixel` after the shifters' clock (`ppuDot_pixel`), whose quantities are those of the
statement as numbers. -/
theorem pixelOutput : Obligations.PixelOutput := by
  refine ⟨fun s y x line hy dot hx => ?_, fun s first last => ?_, fun s _ h => ppuDot_frame h⟩
  · intro t mask bit pixel bg bgAddr unit front addr grey
    obtain ⟨b, v, n, l, o, after⟩ := ppuDot_pixel line hy dot hx
    let q : Ppu := { s.ppu with bg := bgAfter s.ppu.dot s.ppu }
    have shifters : t.ppu.bg.shifters = q.bg.shifters := ppuDot_shifters (by omega) (by omega)
    simp only [Background.shifters, Prod.mk.injEq] at shifters
    obtain ⟨bgLo, bgHi, atLo, atHi⟩ := shifters
    have pixel_eq : (bgPixel q).1.toNat = pixel := by
      simp only [pixel, bit, bgLo, bgHi, ← getLsbD_toNat]
      exact ofBool_pair_toNat _ _
    have palette_eq : (bgPixel q).2.toNat = 2 * bit t.ppu.bg.atHi + bit t.ppu.bg.atLo := by
      simp only [bit, atLo, atHi, ← getLsbD_toNat]
      exact ofBool_pair_toNat _ _
    have bg_eq : (shownBg q x).toNat = bg := by
      simp only [bg, ← pixel_eq, shownBg, Bool.and_eq_true, Bool.or_eq_true, decide_eq_true_eq]
      exact apply_ite BitVec.toNat _ _ _
    have bgAddr_eq : backgroundAddr q x = bgAddr := by
      simp only [backgroundAddr, bg_eq, palette_eq, bgAddr]
    have unit_eq (u : SpriteUnit) : (unitPixel u).toNat = unit u := unitPixel_toNat u
    have front_eq : shownSprite q x = front := by
      simp only [front, shownSprite, frontSprite_eq, unit_eq, Bool.and_eq_true, Bool.or_eq_true, decide_eq_true_eq]
      rfl
    have addr_eq : pixelAddr q x = addr := by
      cases sprite : shownSprite q x with
      | none =>
        simp only [addr, front_eq.symm.trans sprite]
        rw [pixelAddr_of_none sprite, bgAddr_eq]
      | some u =>
        simp only [addr, front_eq.symm.trans sprite]
        rw [pixelAddr_of_some sprite, bg_eq, bgAddr_eq, unit_eq]
    have frame : t.ppu.frame = sparseInsert s.ppu.frame (y * 256 + x) (pixelColour q x) := congrArg Ppu.frame after
    have hit : t.ppu.spr0Hit = (s.ppu.spr0Hit || spriteZeroHit q x) := congrArg Ppu.spr0Hit after
    refine ⟨?_, fun k other => ?_, fun off => ?_, congrArg Ppu.spr after, ?_⟩
    · rw [frame, sparseLookup_insert, if_pos rfl, pixelColour, addr_eq]
    · rw [frame, sparseLookup_insert, if_neg other]
    · exact addr_eq.symm.trans (pixelAddr_of_off x off)
    · rw [hit, Bool.or_eq_true, spriteZeroHit_iff, pixel_eq]
      simp only [unit_eq]
      rfl
  · intro b t d on shifted reloaded
    have shifters := (ppuDot_shifters first last).trans (bgAfter_shifters _ _)
    simp only [Background.shifters, Prod.mk.injEq] at shifters
    obtain ⟨bgLo, bgHi, atLo, atHi⟩ := shifters
    obtain ⟨low, high⟩ := spread_toNat b.atBits
    refine ⟨?_, ?_, ?_, ?_⟩
    · exact (congrArg BitVec.toNat bgLo).trans (shifterAfter_toNat _ _ _ _)
    · exact (congrArg BitVec.toNat bgHi).trans (shifterAfter_toNat _ _ _ _)
    · rw [← low]
      exact (congrArg BitVec.toNat atLo).trans (shifterAfter_toNat _ _ _ _)
    · rw [← high]
      exact (congrArg BitVec.toNat atHi).trans (shifterAfter_toNat _ _ _ _)

end Sys2Proof.Certificates

namespace Sys2Proof.Machine

/-! ## The DMC's reader through its timer (62_apu.md R1042, 60_exceptions.md R843) -/

/-- The reader's registers, which only a register write or a fetch changes. -/
def Dmc.reader (d : Dmc) : (Bool × Bool) × (Word × Word) × Word × BitVec 12 :=
  ((d.irqEnable, d.loop), (d.sampleAddress, d.sampleLength), d.currentAddress, d.bytesRemaining)

theorem dmcRequest_reader (d : Dmc) : (dmcRequest d).reader = d.reader := by
  unfold dmcRequest
  split <;> rfl

theorem dmcOutput_reader (d : Dmc) : (dmcOutput d).reader = d.reader := by
  unfold dmcOutput
  simp only
  repeat' split
  all_goals rfl

theorem dmcTimer_reader (r : Region) (d : Dmc) : (dmcTimer r d).reader = d.reader := by
  unfold dmcTimer
  rw [dmcRequest_reader]
  split
  · exact dmcOutput_reader _
  · rfl

theorem ticks_reader (n : Nat) (s : State) : (ticks n s).apu.dmc.reader = s.apu.dmc.reader := by
  induction n generalizing s with
  | zero => rfl
  | succ n ih => rw [ticks, ih, tick_apu, apuCycle_dmc, dmcTimer_reader]

/-- After its timer the reader's request stands wherever it wants a byte. -/
theorem dmcTimer_requests {r : Region} {d : Dmc} (empty : (dmcTimer r d).buffer = none)
    (more : (dmcTimer r d).bytesRemaining ≠ 0) : (dmcTimer r d).fetchPending = true := by
  have request (e : Dmc) (empty : (dmcRequest e).buffer = none) (more : (dmcRequest e).bytesRemaining ≠ 0) :
      (dmcRequest e).fetchPending = true := by
    unfold dmcRequest at empty more ⊢
    split
    next => rfl
    next satisfied =>
      rw [if_neg satisfied] at empty more
      exact absurd ⟨empty, more⟩ satisfied
  exact request _ empty more

/-! ## A fetch -/

/-- The byte of a fetch: the last one of a looping sample restarts it (R1042, R1043). -/
theorem dmcTake_eq (d : Dmc) (b : Byte) : dmcTake d b = { d with
    buffer := some b
    fetchPending := false
    currentAddress := if d.bytesRemaining = 1 ∧ d.loop = true then d.sampleAddress
      else if d.currentAddress = 0xFFFF then 0x8000 else d.currentAddress + 1
    bytesRemaining := if d.bytesRemaining = 1 ∧ d.loop = true then d.sampleLength.setWidth 12 else d.bytesRemaining - 1 } := by
  have last : d.bytesRemaining - 1 = 0 ↔ d.bytesRemaining = 1 := by bv_omega
  simp only [dmcTake, last]
  by_cases ends : d.bytesRemaining = 1 ∧ d.loop = true
  · simp only [ends, and_self, ↓reduceIte, dmcRestart]
  · simp only [ends, ↓reduceIte]

theorem dmcTakeIrq_eq (d : Dmc) : dmcTakeIrq d = (decide (d.bytesRemaining = 1) && !d.loop && d.irqEnable) := by
  have last : d.bytesRemaining - 1 = 0 ↔ d.bytesRemaining = 1 := by bv_omega
  simp only [dmcTakeIrq, last]

/-- The cycles that a fetch stalls before its read. -/
def dmcStalled (s : State) (stall : Nat) : State :=
  ticks (stall - 1) { s with draws := { s.draws with dmcStall := s.draws.dmcStall + 1 } }

/-- A fetch is its stall, with the read in the last cycle (R843). -/
theorem dmcFetch_eq (s : State) : ∃ stall, (stall = 3 ∨ stall = 4) ∧
    (let w := dmcStalled s stall
     let r := cpuRead w w.apu.dmc.currentAddress
     dmcFetch s = tick (dmcStore r.2 r.1)) := by
  unfold dmcFetch
  simp only
  split
  · exact ⟨4, .inr rfl, rfl⟩
  · exact ⟨3, .inl rfl, rfl⟩

end Sys2Proof.Machine

namespace Sys2Proof.Certificates

open Machine

/-- Settles O59: the timer leaves the request standing (`dmcTimer_requests`), and the stall of a fetch leaves the reader's
registers (`ticks_reader`) and memory, so that the byte read is the one that stood at its address. -/
theorem dmcFetch : Obligations.DmcFetch := by
  refine ⟨fun s => ?_, fun s b pending byte => ?_⟩
  · rw [tick_apu, apuCycle_dmc]
    exact dmcTimer_requests
  · intro d
    obtain ⟨stall, three_or_four, eq⟩ := dmcFetch_eq s
    let w := dmcStalled s stall
    have reader : w.apu.dmc.reader = d.reader := ticks_reader _ _
    have same : SameMemory s w :=
      SameMemory.trans (t := { s with draws := { s.draws with dmcStall := s.draws.dmcStall + 1 } })
        ⟨⟨rfl, rfl, rfl, rfl⟩, ⟨rfl, rfl, rfl, rfl⟩, .refl _, rfl, rfl, rfl, rfl⟩ (ticks_same _ _)
    simp only [Dmc.reader, Prod.mk.injEq] at reader
    obtain ⟨⟨irqEnable, loop⟩, ⟨address, length⟩, current, remaining⟩ := reader
    have read : cpuRead w w.apu.dmc.currentAddress = (b, w) := by
      rw [current]
      exact cpuRead_memByte ((same.memByte _).trans byte)
    have fetched : Machine.dmcFetch s = tick (dmcStore w b) := by
      rw [eq]
      show tick (dmcStore (cpuRead w _).2 (cpuRead w _).1) = _
      rw [read]
    refine ⟨w, stall, three_or_four, rfl, ?_, ?_⟩
    · rw [fetched, dmcStore, dmcTake_eq, dmcTakeIrq_eq, ← remaining, ← loop, ← irqEnable, ← address, ← length, ← current]
    · have cycles : w.cycles = s.cycles + (stall - 1) := ticks_cycles _ _
      have counted : (dmcStore w b).cycles = w.cycles := rfl
      rw [fetched, tick_cycles, counted, cycles]
      omega

end Sys2Proof.Certificates

namespace Sys2Proof.Certificates

open Machine

/-- Settles O6: one state, evaluated; its banks are those of `resetMapper` on the blank cartridge, which any reset puts in range
(`resetMapper_banked`). -/
theorem resetMeetsInvariants : Obligations.ResetMeetsInvariants := by
  have power : State.reset = power State.reset := rfl
  have memory : State.reset.memoryWf = true := rfl
  have beam : State.reset.BeamInRange := ⟨by decide, by decide, by decide, by decide, by decide⟩
  have banks : State.reset.BanksInRange := (banksInRange_iff _).2 (resetMapper_banked blankCartridge)
  have dmc : State.reset.DmcInRange := ⟨by decide, by decide, by decide, by decide, by decide⟩
  have sequencer : State.reset.SequencerInRange := ⟨by decide, by decide⟩
  exact ⟨power, memory, beam, banks, dmc, sequencer, rfl, rfl⟩

end Sys2Proof.Certificates

namespace Sys2Proof.Machine

/-! ## The cycles of the shapes of instructions (70_reset_and_hazards.md R1120) -/

/-- From s to t pass n cycles. -/
abbrev TakesCycles (n : Nat) (s t : State) : Prop := t.cycles = s.cycles + n

theorem TakesCycles.of_eq {m n : Nat} {s t : State} (h : TakesCycles n s t) (e : m = n) : TakesCycles m s t := e ▸ h

theorem readOp_takesCycles (f : Cpu → Byte → Cpu) (src : Source) (s : State) :
    TakesCycles (sourceCycles src s) s (readOp f src s) :=
  readOperand_cycles src s

theorem storeOp_takesCycles (f : Cpu → Byte) (ea : Addressing) (s : State) :
    TakesCycles (writeCycles ea) s (storeOp f ea s) :=
  (cycleWrite_cycles _ _ _).trans (addressOf_cycles .write ea s)

theorem rmwOp_takesCycles (f : Cpu → Byte → Byte × Cpu) (ea : Addressing) (s : State) :
    TakesCycles (rmwCycles ea) s (rmwOp f ea s) := by
  rw [rmwOp_eq]
  exact (cycleWrite_cycles _ _ _).trans (rmwBus_cycles ea s)

theorem impliedOp_takesCycles (f : Cpu → Cpu) (s : State) : TakesCycles 2 s (impliedOp f s) := by
  simp only [TakesCycles, impliedOp, State.setCpu_cycles, dummyRead_cycles, fetch_cycles]

theorem branch_takesCycles {cond : Cpu → Bool} (off : Byte) (s : State) (hpc : ∀ pc, cond { s.cpu with pc := pc } = cond s.cpu) :
    TakesCycles (2 + if cond s.cpu then
        (if hiByte (s.cpu.pc + 2) = hiByte (s.cpu.pc + 2 + off.signExtend 16) then 1 else 2) else 0) s (branch cond off s) := by
  have flags : cond (fetchN 2 s).cpu = cond s.cpu := by rw [fetchN_cpu, hpc]
  unfold TakesCycles
  cases taken : cond s.cpu with
  | false =>
    rw [branch_not_taken off (flags.trans taken), fetchN_cycles]
    rfl
  | true =>
    rw [branch_taken_cycles off (flags.trans taken)]
    by_cases page : hiByte (s.cpu.pc + 2) = hiByte (s.cpu.pc + 2 + off.signExtend 16) <;>
      simp only [crosses, branchTarget, page, ne_eq, not_true_eq_false, not_false_eq_true, decide_true, decide_false,
        ↓reduceIte, Bool.false_eq_true]

theorem jumpTo_takesCycles (a : Word) (s : State) : TakesCycles 3 s (jumpTo a s) := fetchN_cycles 3 s

theorem jumpIndirect_takesCycles (a : Word) (s : State) : TakesCycles 5 s (jumpIndirect a s) := by
  simp only [TakesCycles, jumpIndirect, State.setPc_cycles, cycleRead_cycles, fetchN_cycles]

theorem softwareInterrupt_takesCycles (s : State) : TakesCycles 7 s (softwareInterrupt s) := by
  rw [TakesCycles, softwareInterrupt, enter_cycles, fetchN_cycles]

/-! ## The rows of the table by shape -/

/-- The cycles of an instruction without an effective address, where it does not branch. -/
def plainCycles (i : Instr) : Nat :=
  match i.mnemonic with
  | .pha | .php => 3
  | .pla | .plp => 4
  | .jsr | .rts | .rti => 6
  | .brk => 7
  | .jmp => if i.opcode = 0x6C then 5 else 3
  | _ => 2

theorem plainCycles_instrOf (i : Instr) : plainCycles (instrOf i.opcode 0 0) = plainCycles i := by
  simp only [plainCycles, mnemonic_instrOf, instrOf_opcode]

/-- The rows of the cycle table without an effective address; it gives none for JAM. -/
theorem tableCycles_plain : ∀ op : Byte, (instrOf op 0 0).addressing.map modeOf = none → (instrOf op 0 0).mnemonic ≠ .jam →
    tableCycles op = plainCycles (instrOf op 0 0) := by
  decide +kernel

theorem tableCycles_of_no_addressing {i : Instr} (hea : i.addressing = none) (hjam : i.mnemonic ≠ .jam) :
    tableCycles i.opcode = plainCycles i := by
  rw [← plainCycles_instrOf]
  exact tableCycles_plain i.opcode (by rw [addressing_instrOf, hea]; rfl) (by rwa [mnemonic_instrOf])

theorem instrCycles_of_plain {i : Instr} {s : State} (hea : i.addressing = none) (hjam : i.mnemonic ≠ .jam)
    (straight : branchTaken i s.cpu = none) : instrCycles i s = plainCycles i := by
  simp only [instrCycles, hea, straight, tableCycles_of_no_addressing hea hjam, Nat.add_zero]

theorem instrCycles_of_branch {i : Instr} {s : State} {off : Byte} {taken : Bool}
    (branches : branchTaken i s.cpu = some (off, taken)) : instrCycles i s = 2 + if taken then
      (if hiByte (s.cpu.pc + 2) = hiByte (s.cpu.pc + 2 + off.signExtend 16) then 1 else 2) else 0 := by
  obtain ⟨hea, hjam, two⟩ : i.addressing = none ∧ i.mnemonic ≠ .jam ∧ plainCycles i = 2 := by
    unfold branchTaken at branches
    split at branches
    case h_9 => cases branches
    all_goals exact ⟨rfl, Mnemonic.noConfusion, rfl⟩
  simp only [instrCycles, hea, branches, tableCycles_of_no_addressing hea hjam, two, Nat.add_zero]
  cases taken <;> rfl

/-! ## The cycles of every instruction that runs -/

section
variable {i : Instr} {s t : State} (h : exec i s = .next t)
include h

theorem exec_takesCycles_of_addressing (hi : i.undocumented = false) {ea : Addressing} (hea : i.addressing = some ea) :
    TakesCycles (accessCycles (accessOf i.mnemonic) ea s) s t := by
  cases i <;> cases hi <;> cases hea <;> obtain rfl := Host.Outcome.next.inj h <;> (with_reducible first
    | refine (readOp_takesCycles _ _ _).of_eq ?_
    | refine (storeOp_takesCycles _ _ _).of_eq ?_
    | refine (rmwOp_takesCycles _ _ _).of_eq ?_) <;> rfl

theorem exec_takesCycles_of_branch {off : Byte} {taken : Bool} (branches : branchTaken i s.cpu = some (off, taken)) :
    TakesCycles (2 + if taken then
      (if hiByte (s.cpu.pc + 2) = hiByte (s.cpu.pc + 2 + off.signExtend 16) then 1 else 2) else 0) s t := by
  cases i <;> cases branches <;> obtain rfl := Host.Outcome.next.inj h <;> exact branch_takesCycles _ s fun _ => rfl

theorem exec_takesCycles_of_plain (hi : i.undocumented = false) (hea : i.addressing = none)
    (straight : branchTaken i s.cpu = none) : TakesCycles (plainCycles i) s t := by
  cases i <;> cases hi <;> cases hea <;> cases straight <;> obtain rfl := Host.Outcome.next.inj h <;> (with_reducible first
    | refine (readOp_takesCycles _ _ _).of_eq ?_
    | refine (impliedOp_takesCycles _ _).of_eq ?_
    | refine TakesCycles.of_eq (pushOp_cycles _ _) ?_
    | refine TakesCycles.of_eq (pullOp_cycles _ _) ?_
    | refine (jumpTo_takesCycles _ _).of_eq ?_
    | refine (jumpIndirect_takesCycles _ _).of_eq ?_
    | refine TakesCycles.of_eq (jumpSubroutine_cycles _ _) ?_
    | refine TakesCycles.of_eq (returnSubroutine_cycles _) ?_
    | refine (softwareInterrupt_takesCycles _).of_eq ?_
    | refine TakesCycles.of_eq (returnOp_cycles _) ?_) <;> rfl

/-- A documented instruction takes the cycles of its row with its penalties. -/
theorem exec_takesCycles_of_documented (hi : i.undocumented = false) : TakesCycles (instrCycles i s) s t := by
  have hjam : i.mnemonic ≠ .jam := fun jam => by
    rw [undocumented_of_jam jam] at hi
    cases hi
  cases hea : i.addressing with
  | some ea => exact (exec_takesCycles_of_addressing h hi hea).of_eq (instrCycles_of_addressing hea s)
  | none =>
    cases branches : branchTaken i s.cpu with
    | some b => exact (exec_takesCycles_of_branch h branches).of_eq (instrCycles_of_branch branches)
    | none => exact (exec_takesCycles_of_plain h hi hea branches).of_eq (instrCycles_of_plain hea hjam branches)

end

/-- An undocumented instruction that modifies memory names its address. -/
theorem addressing_of_undocRmwEffect {i : Instr} (hi : i.undocumented = true) {f : Cpu → Byte → Byte × Cpu}
    (hf : undocRmwEffect i.mnemonic = some f) : ∃ ea, i.addressing = some ea ∧ accessOf i.mnemonic = .rmw := by
  cases i <;> cases hi <;> cases hf <;> exact ⟨_, rfl, rfl⟩

theorem addressing_of_sax {i : Instr} (h : i.mnemonic = .sax) : ∃ ea, i.addressing = some ea ∧ accessOf i.mnemonic = .write := by
  cases i <;> cases h <;> exact ⟨_, rfl, rfl⟩

/-- Every other undocumented instruction that runs takes the cycles of a read of its source, SAX too, whose modes cross no
page. -/
theorem skipCycles_of_read {i : Instr} (hi : i.undocumented = true) (hrmw : undocRmwEffect i.mnemonic = none)
    (stable : isUnstable i = false) (s : State) :
    skipCycles i s = i.source.elim 2 fun src => sourceCycles src s := by
  cases i <;> cases hi <;> cases hrmw <;> cases stable <;> rfl

/-- An undocumented instruction that runs under `nmos` takes the cycles that the policy `nop` would count. -/
theorem nmosEffect_takesCycles {i : Instr} (hi : i.undocumented = true) (hjam : i.mnemonic ≠ .jam)
    (stable : isUnstable i = false) (s : State) : TakesCycles (skipCycles i s) s (nmosEffect i s) := by
  cases hf : undocRmwEffect i.mnemonic with
  | some f =>
    obtain ⟨ea, hea, access⟩ := addressing_of_undocRmwEffect hi hf
    simp only [nmosEffect, hf, skipCycles, hea, access]
    exact rmwOp_takesCycles f ea s
  | none =>
    by_cases hsax : i.mnemonic = .sax
    · obtain ⟨ea, hea, access⟩ := addressing_of_sax hsax
      have effect : nmosEffect i s = storeOp (fun c => c.a &&& c.x) ea s := by
        simp only [nmosEffect, undocRmwEffect, hsax, hea, Option.elim]
      rw [effect]
      exact (storeOp_takesCycles _ ea s).of_eq (by simp only [skipCycles, hea, access, accessCycles])
    · rw [skipCycles_of_read hi hf stable]
      simp only [nmosEffect, hf]
      split
      case h_1 h => exact absurd h hsax
      case h_2 h => exact absurd h hjam
      case h_9 =>
        cases i.source with
        | none => exact impliedOp_takesCycles id s
        | some src => exact readOp_takesCycles _ src s
      all_goals simp only [isUnstable, *, Bool.true_eq_false] at stable

/-! ## The cycles of the entries -/

theorem interruptEntry_cycles (v : Word) (s : State) : (interruptEntry v s).cycles = s.cycles + 7 := by
  simp only [interruptEntry, enter_cycles, dummyRead_cycles]

theorem resetEntry_cycles (s : State) : (resetEntry s).cycles = s.cycles + 7 := by
  rw [resetEntry_eq, loadVector_cycles, beforeResetVector_cycles]

end Sys2Proof.Machine

namespace Sys2Proof.Certificates

open Machine

/-- Settles O17: each shape of instructions takes its own cycles (`exec_takesCycles_of_documented`,
`nmosEffect_takesCycles`), which are those of its row. -/
theorem cycleCounts : Obligations.CycleCounts := by
  refine ⟨fun i s runs => ?_, fun s => ⟨interruptEntry_cycles _ _, interruptEntry_cycles _ s, resetEntry_cycles s⟩⟩
  obtain ⟨t, run⟩ := exists_exec_eq_next i s
  refine ⟨t, run, ?_⟩
  obtain documented | ⟨policy, hjam, stable⟩ := runs
  · exact exec_takesCycles_of_documented run documented
  · cases undoc : i.undocumented with
    | false => exact exec_takesCycles_of_documented run undoc
    | true =>
      obtain rfl := Host.Outcome.next.inj ((exec_undocumented_nmos undoc policy).symm.trans run)
      exact (nmosEffect_takesCycles undoc hjam stable s).of_eq (by rw [skipCycles_eq undoc, if_neg hjam])

end Sys2Proof.Certificates

namespace Sys2Proof.Machine

/-! ## The sequencer over many cycles (62_apu.md R1020, R1021) -/

theorem apuCycle_seqRestart (r : Region) (a : Apu) : (apuCycle r a).seqRestart = false := rfl

/-- From inside its sequence, with no restart standing, the sequencer counts modulo the sequence's length. -/
theorem ticks_cycle (k : Nat) {s : State} (inside : s.apu.cycle < seqPeriod (seqTable s.region) s.apu.mode5)
    (running : s.apu.seqRestart = false) :
    (ticks k s).apu.cycle = (s.apu.cycle + k) % seqPeriod (seqTable s.region) s.apu.mode5 := by
  induction k generalizing s with
  | zero => exact (Nat.mod_eq_of_lt inside).symm
  | succ k ih =>
    have region : (tick s).region = s.region := (tick_same s).board.region
    have mode : (tick s).apu.mode5 = s.apu.mode5 := by rw [tick_apu, apuCycle_mode5]
    have cycle : (tick s).apu.cycle = (s.apu.cycle + 1) % seqPeriod (seqTable s.region) s.apu.mode5 := by
      rw [tick_apu, apuCycle_cycle]
      by_cases last : s.apu.cycle + 1 = seqPeriod (seqTable s.region) s.apu.mode5
      · rw [if_pos (.inl last), last, Nat.mod_self]
      · rw [if_neg (by simp only [last, running, Bool.false_eq_true, or_self, not_false_eq_true]),
          Nat.mod_eq_of_lt (by omega)]
    have next := ih (s := tick s) (by rw [region, mode, cycle]; exact Nat.mod_lt _ (seqPeriod_pos _ _))
      (by rw [tick_apu, apuCycle_seqRestart])
    rw [ticks, next, region, mode, cycle, Nat.mod_add_mod]
    congr 1
    omega

/-! ## The channels in a cycle -/

theorem pulseTimer_eq (p : Pulse) :
    pulseTimer p = { p with timer := (pulseTimer p).timer, step := (pulseTimer p).step } := by
  unfold pulseTimer
  split <;> rfl

theorem triangleTimer_eq (t : Triangle) :
    triangleTimer t = { t with timer := (triangleTimer t).timer, step := (triangleTimer t).step } := by
  unfold triangleTimer
  split <;> rfl

theorem noiseTimer_eq (r : Region) (n : Noise) :
    noiseTimer r n = { n with timer := (noiseTimer r n).timer, lfsr := (noiseTimer r n).lfsr } := by
  unfold noiseTimer
  split <;> rfl

/-- A pulse channel's part of `channelTimers`: its timer runs on every second cycle. -/
theorem pulseTimer_phase_eq (phase : Bool) (p : Pulse) : (if phase then pulseTimer p else p) =
    { p with timer := (if phase then pulseTimer p else p).timer, step := (if phase then pulseTimer p else p).step } := by
  cases phase with
  | false => rfl
  | true => exact pulseTimer_eq p

/-- After the frame clocks of a cycle only the timers of the channels move. -/
theorem apuCycle_channels (r : Region) (a : Apu) :
    let b := frameClocks r a
    let c := apuCycle r a
    c.pulse1 = { b.pulse1 with timer := c.pulse1.timer, step := c.pulse1.step }
    ∧ c.pulse2 = { b.pulse2 with timer := c.pulse2.timer, step := c.pulse2.step }
    ∧ c.triangle = { b.triangle with timer := c.triangle.timer, step := c.triangle.step }
    ∧ c.noise = { b.noise with timer := c.noise.timer, lfsr := c.noise.lfsr }
    ∧ c.mode5 = a.mode5 ∧ c.irqInhibit = a.irqInhibit := by
  obtain ⟨-, -, kept, -⟩ := frameClocks_kept r a
  have inhibit : (apuCycle r a).irqInhibit = a.irqInhibit := by
    show (seqClock r a).irqInhibit = _
    rw [seqClock_eq]
    exact kept
  refine ⟨?_, ?_, ?_, ?_, apuCycle_mode5 r a, inhibit⟩ <;> rw [apuCycle, seqClock_eq]
  · exact pulseTimer_phase_eq _ _
  · exact pulseTimer_phase_eq _ _
  · exact triangleTimer_eq _
  · exact noiseTimer_eq r _

/-- The half-frame clocks of R1020, with the values of R1021. -/
theorem givesHalf_seqTable (r : Region) (mode5 : Bool) (n : Nat) : givesHalf (seqTable r) mode5 n =
    (decide (n = if decide (r = .ntsc) then 14913 else 16627)
      || (if mode5 then decide (n = if decide (r = .ntsc) then 37281 else 41565)
        else decide (n = if decide (r = .ntsc) then 29829 else 33252))) := by
  cases r <;> cases mode5 <;>
    simp only [givesHalf, seqTable, Bool.not_false, Bool.not_true, Bool.true_and, Bool.false_and, Bool.or_false] <;> rfl

/-- Every half-frame clock comes with a quarter-frame clock; two more stand alone. -/
theorem givesQuarter_seqTable (r : Region) (mode5 : Bool) (n : Nat) : givesQuarter (seqTable r) mode5 n =
    (givesHalf (seqTable r) mode5 n || decide (n = if decide (r = .ntsc) then 7457 else 8313)
      || decide (n = if decide (r = .ntsc) then 22371 else 24939)) := by
  unfold givesHalf givesQuarter
  have values : (seqTable r).q1 = (if decide (r = .ntsc) then 7457 else 8313)
      ∧ (seqTable r).q3 = (if decide (r = .ntsc) then 22371 else 24939) := by cases r <;> exact ⟨rfl, rfl⟩
  rw [values.1, values.2]
  ac_rfl

/-! ## The quarter-frame clock (R1031, R1034) -/

/-- A down-counter that does not stand at 0 goes down by 1. -/
theorem toNat_sub_one {w : Nat} {x : BitVec w} (h : x ≠ 0) : (x - 1).toNat = x.toNat - 1 := by
  have pos : 0 < x.toNat := Nat.pos_of_ne_zero fun e => h (BitVec.eq_of_toNat_eq (e.trans BitVec.toNat_zero.symm))
  have width : 0 < w := Nat.pos_of_ne_zero fun e => h (by subst e; exact Subsingleton.elim _ _)
  have one : (1 : BitVec w).toNat = 1 := BitVec.toNat_one width
  rw [BitVec.toNat_sub_of_le (by rw [BitVec.le_def, one]; exact pos), one]

/-- A down-counter that stays at 0. -/
theorem downCounter_toNat {w : Nat} (x : BitVec w) : (if x ≠ 0 then x - 1 else x).toNat = x.toNat - 1 := by
  split
  case isTrue h => exact toNat_sub_one h
  case isFalse h =>
    rw [not_not.1 h]
    show (0#w).toNat = (0#w).toNat - 1
    rw [BitVec.toNat_zero]

theorem envClock_clocked (vol : BitVec 4) (halt : Bool) (e : Envelope) :
    (envClock vol halt e).start = false
    ∧ (envClock vol halt e).divider.toNat = (if e.start = true ∨ e.divider = 0 then vol.toNat else e.divider.toNat - 1)
    ∧ (envClock vol halt e).decay.toNat = (if e.start = true then 15 else if e.divider ≠ 0 then e.decay.toNat
        else if e.decay = 0 ∧ halt = true then 15 else e.decay.toNat - 1) := by
  unfold envClock
  by_cases start : e.start = true
  · simp only [start, ↓reduceIte, true_or]
    exact ⟨trivial, trivial, rfl⟩
  · rw [Bool.not_eq_true] at start
    by_cases divider : e.divider = 0
    · by_cases decay : e.decay = 0
      · cases halt <;> simp only [start, divider, decay, ne_eq, not_true_eq_false, Bool.false_eq_true, ↓reduceIte, or_true,
          and_false, and_self] <;> exact ⟨trivial, trivial, rfl⟩
      · simp only [start, divider, decay, ne_eq, not_true_eq_false, not_false_eq_true, Bool.false_eq_true, ↓reduceIte,
          or_true, false_and, toNat_sub_one decay, and_self]
    · simp only [start, divider, ne_eq, not_false_eq_true, Bool.false_eq_true, ↓reduceIte, or_self,
        toNat_sub_one divider, and_self]

theorem linearClock_eq (t : Triangle) : linearClock t =
    { t with
      linear := if t.linReloadFlag = true then t.linReload else if t.linear ≠ 0 then t.linear - 1 else t.linear
      linReloadFlag := t.linReloadFlag && t.control } := by
  obtain ⟨control, reload, linear, flag, -⟩ := t
  cases control <;> cases flag
  case true.true | false.true => rfl
  all_goals
    simp only [linearClock, Bool.false_eq_true, ↓reduceIte, Bool.false_and]
    split <;> rfl

theorem linearClock_linear (t : Triangle) : (linearClock t).linear.toNat =
    if t.linReloadFlag = true then t.linReload.toNat else t.linear.toNat - 1 := by
  rw [linearClock_eq]
  by_cases flag : t.linReloadFlag = true
  · simp only [flag, ↓reduceIte]
  · rw [if_neg flag, if_neg flag]
    exact downCounter_toNat t.linear

/-! ## The half-frame clock (R1030, R1032) -/

theorem lengthClock_toNat (halt : Bool) (l : Byte) :
    (lengthClock halt l).toNat = if halt = true then l.toNat else l.toNat - 1 := by
  cases halt with
  | true => rw [lengthClock, if_neg (fun h => Bool.noConfusion h.2), if_pos rfl]
  | false =>
    simp only [lengthClock, and_true, Bool.false_eq_true, ↓reduceIte]
    exact downCounter_toNat l

/-- A sweep that is not muted takes the period to another one. -/
theorem sweepTarget_range {first : Bool} {p : Pulse} (shift : p.sweepShift ≠ 0) (heard : sweepMuted first p = false) :
    0 ≤ sweepTarget first p ∧ sweepTarget first p < 0x800 := by
  simp only [sweepMuted, Bool.or_eq_false_iff, decide_eq_false_iff_not, Bool.and_eq_false_iff, Bool.not_eq_false'] at heard
  obtain ⟨low, high⟩ := heard
  have half : p.period.toNat / 2 ^ p.sweepShift.toNat ≤ p.period.toNat / 2 :=
    Nat.div_le_div_left (Nat.le_self_pow (fun e => shift (BitVec.eq_of_toNat_eq e)) 2) (by decide)
  have top := p.period.isLt
  cases neg : p.sweepNeg with
  | false =>
    have above : 0 ≤ sweepTarget first p := by
      simp only [sweepTarget, neg, Bool.false_eq_true, ↓reduceIte]
      exact Int.add_nonneg (Int.natCast_nonneg _) (Int.natCast_nonneg _)
    exact ⟨above, by have := high.resolve_left (by simp only [neg, Bool.false_eq_true, not_false_eq_true]); omega⟩
  | true =>
    simp only [sweepTarget, neg, ↓reduceIte]
    generalize p.period.toNat / 2 ^ p.sweepShift.toNat = change at half ⊢
    cases first <;> simp only [Bool.false_eq_true, ↓reduceIte] <;> omega

theorem sweepClock_eq (first : Bool) (p : Pulse) : sweepClock first p =
    { p with
      period := if p.sweepDiv = 0 ∧ p.sweepEn = true ∧ p.sweepShift ≠ 0 ∧ sweepMuted first p = false then
          BitVec.ofInt 11 (sweepTarget first p)
        else p.period
      sweepDiv := if p.sweepDiv = 0 ∨ p.sweepReload = true then p.sweepP else p.sweepDiv - 1
      sweepReload := false } := by
  unfold sweepClock
  have stands (h : ¬(p.sweepDiv = 0 ∨ p.sweepReload = true)) : p.sweepReload = false :=
    Bool.eq_false_iff.2 fun e => h (.inr e)
  by_cases reload : p.sweepDiv = 0 ∨ p.sweepReload = true
  · simp only [reload, ↓reduceIte]
    split <;> rfl
  · simp only [reload, ↓reduceIte, ← stands reload]
    split <;> rfl

theorem sweepClock_period (first : Bool) (p : Pulse) : ((sweepClock first p).period.toNat : Int) =
    if p.sweepDiv = 0 ∧ p.sweepEn = true ∧ p.sweepShift ≠ 0 ∧ sweepMuted first p = false then sweepTarget first p
    else p.period.toNat := by
  rw [sweepClock_eq]
  simp only
  split
  case isTrue sweeps =>
    obtain ⟨-, -, shift, heard⟩ := sweeps
    obtain ⟨low, high⟩ := sweepTarget_range shift heard
    rw [BitVec.toNat_ofInt]
    omega
  case isFalse => rfl

theorem sweepClock_sweepDiv (first : Bool) (p : Pulse) : (sweepClock first p).sweepDiv.toNat =
    if p.sweepDiv = 0 ∨ p.sweepReload = true then p.sweepP.toNat else p.sweepDiv.toNat - 1 := by
  rw [sweepClock_eq]
  simp only
  split
  case isTrue => rfl
  case isFalse counts => exact toNat_sub_one fun e => counts (.inl e)

/-- The quotient of the sweep's change is the same in exact arithmetic. -/
theorem sweepTarget_eq (first : Bool) (p : Pulse) : sweepTarget first p =
    if p.sweepNeg then p.period.toNat - (p.period.toNat / 2 ^ p.sweepShift.toNat : Int) - (if first then 1 else 0)
    else p.period.toNat + (p.period.toNat / 2 ^ p.sweepShift.toNat : Int) := by
  simp only [sweepTarget, Int.natCast_ediv, Nat.cast_pow, Nat.cast_ofNat]

theorem sweepMuted_eq_false_iff (first : Bool) (p : Pulse) : sweepMuted first p = false ↔
    ¬(p.period.toNat < 8 ∨ (p.sweepNeg = false ∧ 0x7FF < sweepTarget first p)) := by
  simp only [sweepMuted, ← Bool.not_eq_true, Bool.or_eq_true, decide_eq_true_eq, Bool.and_eq_true, Bool.not_eq_true']

/-- A pulse channel at a half-frame clock; the sweep does not look at the length counter. -/
theorem pulseHalf_eq (first : Bool) (p : Pulse) : pulseHalf first p = { p with
    period := (pulseHalf first p).period
    sweepDiv := (pulseHalf first p).sweepDiv
    sweepReload := false
    length := (pulseHalf first p).length } := by
  rw [pulseHalf, sweepClock_eq]

theorem pulseHalf_length (first : Bool) (p : Pulse) : (pulseHalf first p).length = lengthClock p.halt p.length := by
  rw [pulseHalf, sweepClock_eq]

theorem pulseHalf_period (first : Bool) (p : Pulse) : ((pulseHalf first p).period.toNat : Int) =
    if p.sweepDiv = 0 ∧ p.sweepEn = true ∧ p.sweepShift ≠ 0
      ∧ ¬(p.period.toNat < 8 ∨ (p.sweepNeg = false ∧ 0x7FF < sweepTarget first p)) then sweepTarget first p
    else p.period.toNat := by
  refine (sweepClock_period first { p with length := lengthClock p.halt p.length }).trans (if_congr ?_ rfl rfl)
  exact and_congr_right' (and_congr_right' (and_congr_right' (sweepMuted_eq_false_iff first p)))

theorem pulseHalf_swept (first : Bool) (p : Pulse) :
    let p' := pulseHalf first p
    let change : Int := p.period.toNat / 2 ^ p.sweepShift.toNat
    let target : Int := if p.sweepNeg then p.period.toNat - change - (if first then 1 else 0) else p.period.toNat + change
    let muted := p.period.toNat < 8 ∨ (p.sweepNeg = false ∧ 0x7FF < target)
    (p'.period.toNat : Int)
      = (if p.sweepDiv = 0 ∧ p.sweepEn = true ∧ p.sweepShift ≠ 0 ∧ ¬muted then target else p.period.toNat)
    ∧ p'.sweepDiv.toNat = (if p.sweepDiv = 0 ∨ p.sweepReload = true then p.sweepP.toNat else p.sweepDiv.toNat - 1)
    ∧ p'.sweepReload = false
    ∧ p'.length.toNat = (if p.halt = true then p.length.toNat else p.length.toNat - 1)
    ∧ p' = { p with period := p'.period, sweepDiv := p'.sweepDiv, sweepReload := false, length := p'.length } := by
  refine ⟨?_, sweepClock_sweepDiv first { p with length := lengthClock p.halt p.length },
    congrArg Pulse.sweepReload (pulseHalf_eq first p), ?_, pulseHalf_eq first p⟩
  · rw [pulseHalf_period, sweepTarget_eq]
  · rw [pulseHalf_length, lengthClock_toNat]

/-! ## The flags (R1005, R1007, R1008, R1020) -/

theorem ppuDots_irqApu (n : Nat) (s : State) : (ppuDots n s).pending.irqApu = s.pending.irqApu := by
  induction n generalizing s with
  | zero => rfl
  | succ n ih => exact ih (ppuDot s)

theorem tick_irqApu (s : State) : (tick s).pending.irqApu = (s.pending.irqApu || seqIrq s.region s.apu) :=
  ppuDots_irqApu _ _

theorem mapperWriteIrq_irqApu (m : Mapper) (a : Word) (p : Pending) : (mapperWriteIrq m a p).irqApu = p.irqApu := by
  unfold mapperWriteIrq
  repeat' split
  all_goals rfl

theorem ppuRegWrite_irqApu (s : State) (r : Nat) (v : Byte) : (ppuRegWrite s r v).pending.irqApu = s.pending.irqApu := by
  by_cases ctrl : r = 0
  · rw [ctrl]
    rfl
  · rw [ppuRegWrite_pending s v ctrl]

theorem apuWriteIrq_irqApu (r : Nat) (v : Byte) (p : Pending) :
    (apuWriteIrq r v p).irqApu = (p.irqApu && !(decide (r = 0x17) && v.getLsbD 6)) := by
  unfold apuWriteIrq
  split
  case isTrue h => rw [decide_eq_false (by omega), Bool.false_and, Bool.not_false, Bool.and_true]
  case isFalse =>
    split
    case isTrue h => rw [decide_eq_true h.1, h.2, Bool.and_self, Bool.not_true, Bool.and_false]
    case isFalse h =>
      rw [← Bool.decide_eq_true (b := v.getLsbD 6), ← Bool.decide_and, decide_eq_false h, Bool.not_false, Bool.and_true]

/-- Of the CPU's writes only one to 0x4017 with bit 6 set moves the frame flag. -/
theorem cpuWrite_irqApu (s : State) (a : Word) (v : Byte) :
    (cpuWrite s a v).pending.irqApu = (s.pending.irqApu && !(decide (a = 0x4017) && v.getLsbD 6)) := by
  have frame : a = 0x4017 ↔ a.toNat = 0x4017 := BitVec.toNat_inj.symm
  by_cases reg : 0x4000 ≤ a.toNat ∧ (a.toNat < 0x4014 ∨ a.toNat = 0x4015 ∨ a.toNat = 0x4017)
  · rw [cpuWrite_apu v reg.1 reg.2]
    have written : decide (a.toNat - 0x4000 = 0x17) = decide (a = 0x4017) := decide_eq_decide.2 (by rw [frame]; omega)
    show (apuWriteIrq (a.toNat - 0x4000) v s.pending).irqApu = _
    rw [apuWriteIrq_irqApu, written]
  · rw [decide_eq_false (by rw [frame]; omega), Bool.false_and, Bool.not_false, Bool.and_true]
    unfold cpuWrite
    simp only
    split
    · rfl
    split
    · exact ppuRegWrite_irqApu s _ v
    rw [if_neg (by omega)]
    repeat' split
    case isFalse => exact mapperWriteIrq_irqApu _ a _
    all_goals rfl

/-! ## The status byte (R1005) -/

theorem cpuRead_status (s : State) : cpuRead s 0x4015 = apuStatusRead s := rfl

theorem cpuRead_pending_cases (s : State) (a : Word) : (cpuRead s a).2.pending =
    if a = 0x4015 then { s.pending with irqApu := false } else s.pending := by
  split
  case isTrue h => rw [h, cpuRead_status]; rfl
  case isFalse h => exact cpuRead_pending_eq s h

/-- A counter's status bit. -/
theorem decide_ne_zero {w : Nat} (x : BitVec w) : decide (x ≠ 0) = decide (0 < x.toNat) := by
  have zero : x = 0#w ↔ x.toNat = 0 := by rw [← BitVec.toNat_inj, BitVec.toNat_zero]
  exact decide_eq_decide.2 ((not_congr zero).trans Nat.pos_iff_ne_zero.symm)

theorem apuStatusRead_bits (s : State) : let r := (apuStatusRead s).1
    r.getLsbD 7 = s.pending.irqDmc ∧ r.getLsbD 6 = s.pending.irqApu
    ∧ r.getLsbD 4 = decide (0 < s.apu.dmc.bytesRemaining.toNat) ∧ r.getLsbD 3 = decide (0 < s.apu.noise.length.toNat)
    ∧ r.getLsbD 2 = decide (0 < s.apu.triangle.length.toNat) ∧ r.getLsbD 1 = decide (0 < s.apu.pulse2.length.toNat)
    ∧ r.getLsbD 0 = decide (0 < s.apu.pulse1.length.toNat) := by
  simp only [apuStatusRead, decide_ne_zero, BitVec.getLsbD_append, BitVec.getLsbD_ofBool, Nat.reduceLT, Nat.reduceSub,
    decide_true, Bool.true_and, and_self, ↓reduceIte]

/-! ## The registers as numbers (R1002–R1004, R1006, R1051) -/

theorem periodLow_eq (p : BitVec 11) (v : Byte) :
    (p.extractLsb' 8 3 ++ v : BitVec (3 + 8)) = BitVec.ofNat 11 (p.toNat / 256 * 256 + v.toNat) := by
  apply BitVec.eq_of_toNat_eq
  rw [append_toNat, extractLsb'_toNat_eq, BitVec.toNat_ofNat]
  omega

theorem periodHigh_eq (p : BitVec 11) (v : Byte) :
    (v.extractLsb' 0 3 ++ p.extractLsb' 0 8 : BitVec (3 + 8)) = BitVec.ofNat 11 (v.toNat % 8 * 256 + p.toNat % 256) := by
  apply BitVec.eq_of_toNat_eq
  rw [append_toNat, extractLsb'_toNat_eq, extractLsb'_toNat_eq, BitVec.toNat_ofNat]
  omega

theorem lengthOf_top (v : Byte) : lengthOf (v.extractLsb' 3 5) = lengthTable.getD (v.toNat / 8) 0 := by
  have code : (v.extractLsb' 3 5).toNat = v.toNat / 8 := by
    rw [extractLsb'_toNat_eq]
    omega
  rw [lengthOf, code]

theorem sampleAddress_eq (v : Byte) : (0xC000 + 64 * v.setWidth 16 : Word) = BitVec.ofNat 16 (0xC000 + 64 * v.toNat) := by
  bv_omega

theorem sampleLength_eq (v : Byte) : (16 * v.setWidth 16 + 1 : Word) = BitVec.ofNat 16 (16 * v.toNat + 1) := by
  bv_omega

/-- A write to an APU register. -/
theorem cpuWrite_register {s : State} {a : Word} (v : Byte) {r : Nat} (reg : a.toNat = 0x4000 + r)
    (hr : r < 0x14 ∨ r = 0x15 ∨ r = 0x17) :
    cpuWrite s a v = { s with apu := apuWrite s.apu r v, pending := apuWriteIrq r v s.pending } := by
  rw [cpuWrite_apu v (by omega) (by omega), show a.toNat - 0x4000 = r by omega]

/-- The request of an empty buffer with bytes left (R1042). -/
theorem dmcRequest_eq (d : Dmc) : dmcRequest d =
    { d with fetchPending := d.fetchPending || (d.buffer.isNone && decide (d.bytesRemaining ≠ 0)) } := by
  have wants : (d.buffer.isNone && decide (d.bytesRemaining ≠ 0)) = decide (d.buffer = none ∧ d.bytesRemaining ≠ 0) := by
    rw [Bool.decide_and]
    cases d.buffer <;> rfl
  rw [dmcRequest, wants]
  split
  case isTrue h => rw [decide_eq_true h, Bool.or_true]
  case isFalse h => rw [decide_eq_false h, Bool.or_false]

theorem dmcEnable_eq (on : Bool) (d : Dmc) : dmcEnable on d =
    if on then
      (if d.bytesRemaining = 0 then
        { d with currentAddress := d.sampleAddress, bytesRemaining := BitVec.ofNat 12 d.sampleLength.toNat
                 fetchPending := d.fetchPending || (d.buffer.isNone && decide (d.sampleLength.toNat % 4096 ≠ 0)) }
      else d)
    else { d with bytesRemaining := 0 } := by
  have reload : d.sampleLength.setWidth 12 = BitVec.ofNat 12 d.sampleLength.toNat := rfl
  have wanted : BitVec.ofNat 12 d.sampleLength.toNat ≠ 0 ↔ d.sampleLength.toNat % 4096 ≠ 0 := by
    rw [ne_eq, ← BitVec.toNat_inj, BitVec.toNat_ofNat]
    rfl
  cases on with
  | false => rfl
  | true => simp only [dmcEnable, dmcRequest_eq, dmcRestart, ↓reduceIte, reload, wanted]

/-- The length an enabled channel loads (R1051). -/
def loadedLength (enabled : Bool) (v l : Byte) : Byte := if enabled then lengthTable.getD (v.toNat / 8) 0 else l

/-- The four registers of a pulse channel as numbers (R1002). -/
theorem pulseWrite_eq (k : Nat) (q : Pulse) (v : Byte) : pulseWrite k q v =
    if k = 0 then { q with duty := BitVec.ofNat 2 (v.toNat / 64), halt := v.getLsbD 5, constVol := v.getLsbD 4,
                           vol := BitVec.ofNat 4 v.toNat }
    else if k = 1 then { q with sweepEn := v.getLsbD 7, sweepP := BitVec.ofNat 3 (v.toNat / 16), sweepNeg := v.getLsbD 3,
                                sweepShift := BitVec.ofNat 3 v.toNat, sweepReload := true }
    else if k = 2 then { q with period := BitVec.ofNat 11 (q.period.toNat / 256 * 256 + v.toNat) }
    else { q with period := BitVec.ofNat 11 (v.toNat % 8 * 256 + q.period.toNat % 256)
                  length := loadedLength q.enabled v q.length, step := 0, env := { q.env with start := true } } := by
  match k with
  | 0 => simp only [pulseWrite, extractLsb'_eq_ofNat v 6, lowBits_eq_ofNat, ↓reduceIte, Nat.reducePow]
  | 1 => simp only [pulseWrite, extractLsb'_eq_ofNat v 4, lowBits_eq_ofNat, ↓reduceIte, Nat.reducePow, Nat.one_ne_zero]
  | 2 => exact congrArg (fun period => { q with period := period }) (periodLow_eq q.period v)
  | k + 3 =>
    rw [if_neg (by omega : ¬k + 3 = 0), if_neg (by omega : ¬k + 3 = 1), if_neg (by omega : ¬k + 3 = 2)]
    simp only [pulseWrite, lengthOf_top, periodHigh_eq, loadedLength]

theorem apuWrite_pulse1 (a : Apu) {r : Nat} (h : r < 0x04) (v : Byte) :
    apuWrite a r v = { a with pulse1 := pulseWrite r a.pulse1 v } :=
  if_pos h

theorem apuWrite_pulse2 (a : Apu) {r : Nat} (h : 0x04 ≤ r) (h' : r < 0x08) (v : Byte) :
    apuWrite a r v = { a with pulse2 := pulseWrite (r - 0x04) a.pulse2 v } :=
  (if_neg (by omega)).trans (if_pos h')

theorem apuWrite_triangle (a : Apu) {k : Nat} (h : k < 0x04) (v : Byte) :
    apuWrite a (0x08 + k) v = { a with triangle := triangleWrite k a.triangle v } := by
  rw [apuWrite, if_neg (by omega), if_neg (by omega), if_pos (by omega), Nat.add_sub_cancel_left]

theorem apuWrite_noise (a : Apu) {k : Nat} (h : k < 0x04) (v : Byte) :
    apuWrite a (0x0C + k) v = { a with noise := noiseWrite k a.noise v } := by
  rw [apuWrite, if_neg (by omega), if_neg (by omega), if_neg (by omega), if_pos (by omega), Nat.add_sub_cancel_left]

theorem apuWrite_dmc (a : Apu) {k : Nat} (h : k < 0x04) (v : Byte) :
    apuWrite a (0x10 + k) v = { a with dmc := dmcWrite k a.dmc v } := by
  rw [apuWrite, if_neg (by omega), if_neg (by omega), if_neg (by omega), if_neg (by omega), if_pos (by omega),
    Nat.add_sub_cancel_left]

/-- No write to a pulse, triangle or noise register clears a flag. -/
theorem apuWriteIrq_of_channel {r : Nat} (h : r < 0x10) (v : Byte) (p : Pending) : apuWriteIrq r v p = p := by
  rw [apuWriteIrq, if_neg (by omega), if_neg (by omega)]

theorem apuWriteIrq_dmc (v : Byte) (p : Pending) :
    apuWriteIrq 0x10 v p = if v.getLsbD 7 then p else { p with irqDmc := false } := by
  cases irq : v.getLsbD 7 with
  | false => exact if_pos (.inr ⟨rfl, irq⟩)
  | true => simp only [apuWriteIrq, irq, Nat.reduceEqDiff, Bool.true_eq_false, and_false, or_self, false_and, ↓reduceIte]

theorem apuWriteIrq_enable (v : Byte) (p : Pending) : apuWriteIrq 0x15 v p = { p with irqDmc := false } := if_pos (.inl rfl)

theorem apuWriteIrq_frame (v : Byte) (p : Pending) :
    apuWriteIrq 0x17 v p = if v.getLsbD 6 then { p with irqApu := false } else p := by
  simp only [apuWriteIrq, Nat.reduceEqDiff, false_and, or_self, ↓reduceIte, true_and]

section
variable {s : State} {a : Word} (v : Byte)

/-- A write to a pulse, triangle or noise register. -/
theorem cpuWrite_channel {r : Nat} (reg : a.toNat = 0x4000 + r) (h : r < 0x10) :
    cpuWrite s a v = { s with apu := apuWrite s.apu r v } := by
  rw [cpuWrite_register v reg (by omega), apuWriteIrq_of_channel h]

theorem cpuWrite_triangle {k : Nat} (reg : a.toNat = 0x4008 + k) (h : k < 0x04) :
    cpuWrite s a v = { s with apu := { s.apu with triangle := triangleWrite k s.apu.triangle v } } := by
  rw [cpuWrite_channel v (r := 0x08 + k) (by omega) (by omega), apuWrite_triangle _ h]

theorem cpuWrite_noise {k : Nat} (reg : a.toNat = 0x400C + k) (h : k < 0x04) :
    cpuWrite s a v = { s with apu := { s.apu with noise := noiseWrite k s.apu.noise v } } := by
  rw [cpuWrite_channel v (r := 0x0C + k) (by omega) (by omega), apuWrite_noise _ h]

theorem cpuWrite_dmc {k : Nat} (reg : a.toNat = 0x4010 + k) (h : k < 0x04) :
    cpuWrite s a v = { s with
      apu := { s.apu with dmc := dmcWrite k s.apu.dmc v }, pending := apuWriteIrq (0x10 + k) v s.pending } := by
  rw [cpuWrite_register v (r := 0x10 + k) (by omega) (by omega), apuWrite_dmc _ h]

end

end Sys2Proof.Machine

namespace Sys2Proof.Certificates

open Machine

/-- Settles O60: the sequencer counts (`ticks_cycle`); its clocks, `frameClocks`, are the only thing of a cycle that moves the
envelopes, counters and sweeps (`apuCycle_channels`); each clock (`envClock_clocked`, `linearClock_eq`, `pulseHalf_swept`,
`lengthClock_toNat`), each flag (`tick_irqApu`, `cpuRead_pending_cases`, `cpuWrite_irqApu`) and each register has its rule. -/
theorem frameInterrupt : Obligations.FrameInterrupt := by
  refine ⟨fun s k start running => ?_, fun s => ?_, fun a => ?_, fun a => ?_, fun s => ?_, cpuRead_pending_cases,
    cpuWrite_irqApu, fun s => ?_, fun s a v => ?_⟩
  · rw [ticks_cycle k (by rw [start]; exact seqPeriod_pos _ _) running, start, Nat.zero_add]
    cases s.region <;> cases s.apu.mode5 <;> rfl
  · have channels := apuCycle_channels s.region s.apu
    simp only [frameClocks, givesQuarter_seqTable, givesHalf_seqTable] at channels
    simp only [tick_apu]
    exact channels
  · refine ⟨envClock_clocked _ _ _, envClock_clocked _ _ _, envClock_clocked _ _ _, linearClock_linear a.triangle, ?_, ?_⟩
    · exact congrArg Triangle.linReloadFlag (linearClock_eq a.triangle)
    · simp only [quarterFrame]
      rw [linearClock_eq]
  · exact ⟨pulseHalf_swept true a.pulse1, pulseHalf_swept false a.pulse2, lengthClock_toNat _ _, lengthClock_toNat _ _, rfl⟩
  · rw [tick_irqApu]
    unfold seqIrq
    cases s.region <;> rfl
  · exact apuStatusRead_bits s
  · dsimp only
    refine ⟨fun low high => ?_, fun low high => ?_, fun reg => ?_, fun reg => ?_, fun reg => ?_, fun reg => ?_, fun reg => ?_,
      fun reg => ?_, fun reg => ?_, fun reg => ?_, fun reg => ?_, fun reg => ?_, fun reg => ?_, fun reg => ?_, fun reg => ?_⟩
    · rw [cpuWrite_channel v (r := a.toNat - 0x4000) (by omega) (by omega), apuWrite_pulse1 _ (by omega), pulseWrite_eq]
      rfl
    · rw [cpuWrite_channel v (r := a.toNat - 0x4000) (by omega) (by omega), apuWrite_pulse2 _ (by omega) (by omega),
        pulseWrite_eq, show a.toNat - 0x4000 - 0x04 = a.toNat - 0x4004 by omega]
      rfl
    · simp only [cpuWrite_triangle v (k := 0) reg (by decide), triangleWrite, lowBits_eq_ofNat]
    · simp only [cpuWrite_triangle v (k := 2) reg (by decide), triangleWrite, periodLow_eq]
    · simp only [cpuWrite_triangle v (k := 3) reg (by decide), triangleWrite, periodHigh_eq, lengthOf_top]
      rfl
    · simp only [cpuWrite_noise v (k := 0) reg (by decide), noiseWrite, lowBits_eq_ofNat]
    · simp only [cpuWrite_noise v (k := 2) reg (by decide), noiseWrite, lowBits_eq_ofNat]
    · simp only [cpuWrite_noise v (k := 3) reg (by decide), noiseWrite, lengthOf_top]
      rfl
    · obtain reg | reg := reg
      · exact cpuWrite_triangle v (k := 1) reg (by decide)
      · exact cpuWrite_noise v (k := 1) reg (by decide)
    · simp only [cpuWrite_dmc v (k := 0) reg (by decide), dmcWrite, lowBits_eq_ofNat, Nat.add_zero, apuWriteIrq_dmc]
    · simp only [cpuWrite_dmc v (k := 1) reg (by decide), dmcWrite, lowBits_eq_ofNat]
      rfl
    · simp only [cpuWrite_dmc v (k := 2) reg (by decide), dmcWrite, sampleAddress_eq]
      rfl
    · simp only [cpuWrite_dmc v (k := 3) reg (by decide), dmcWrite, sampleLength_eq]
      rfl
    · rw [cpuWrite_register v (r := 0x15) reg (by decide), apuWriteIrq_enable]
      show { s with apu := apuEnableWrite s.apu v, pending := { s.pending with irqDmc := false } } = _
      rw [apuEnableWrite, dmcEnable_eq]
      rfl
    · rw [cpuWrite_register v (r := 0x17) reg (by decide), apuWriteIrq_frame]
      refine ⟨rfl, ?_, by rw [tick_apu, apuCycle_seqRestart]⟩
      have restarts : (frameCounterWrite s.apu v).seqRestart = true := by
        unfold frameCounterWrite
        cases v.getLsbD 7 <;> rfl
      rw [tick_apu, apuCycle_cycle]
      exact if_pos (.inr restarts)

end Sys2Proof.Certificates
